-- ==== Sys2Proof/Word.lean ====
section
/-! DEFINITION. The byte. The words whose widths are parameters stand in Config.lean, after the record that gives them. -/

namespace Sys2Proof

/-- A byte: 8 bits, bit `n` has weight `2^n` (R7, R64). -/
abbrev Byte := BitVec 8

end Sys2Proof
end

