-- ==== Sys2Proof/Config.lean ====
section
/-! DEFINITION. The parameters of 00_scope.md (R5: fixed by the source; R6: left to the implementation), the words whose
widths Table R6 gives, and the one free value of the model. -/

namespace Sys2Proof

namespace Config

/-- FRAME_LEN: bytes in one frame and in the frame buffer (Table R5). -/
abbrev frameLen : Nat := 25

/-- START_MARK: required value of frame byte 0 (Table R5). -/
abbrev startMark : Byte := 0x0F

/-- END_MARK: required value of frame byte 24 (Table R5). -/
abbrev endMark : Byte := 0x00

/-- FLAGS_IDX: the frame byte that carries the flag bits (Table R5). -/
abbrev flagsIdx : Nat := 23

/-- N_ROWS: rows of the ChannelBitSpec table (Table R5). -/
abbrev nRows : Nat := 18

/-- N_PICKS: entries per row (Table R5). -/
abbrev nPicks : Nat := 3

/-- NORM_DIV of the normalization `value/2 + 998` (Table R5). -/
abbrev normDiv : Nat := 2

/-- NORM_OFF of the normalization, and DIG_LO (Table R5). -/
abbrev normOff : Nat := 998

/-- The scale of a digital channel: DIG_HI - DIG_LO (Table R5, R177). -/
abbrev digScale : Nat := 1000

end Config

/-- The parameters the source leaves to the implementation: the eleven values of Table R6, in its order. -/
structure Params where
  /-- MAX_CH, the source's `max_supported_channels`; the rules stay written for 1..18 (D8). -/
  maxCh : Nat
  /-- TIME_W: bits of every timestamp and of the `now` input (D1). -/
  timeW : Nat
  /-- TICK: microseconds in one unit of a timestamp (D1). -/
  tick : Nat
  /-- GAP_TICKS, the abandonment gap in ticks, compared with strict `>` (D2). -/
  gapTicks : Nat
  /-- LOCK_TICKS, the lock window in ticks, compared with `≤` (D2, D3). -/
  lockTicks : Nat
  /-- CNT_W: bits of the dropped-frame counter (D6). -/
  cntW : Nat
  /-- CHV_W: bits of a channel value register (D7). -/
  chvW : Nat
  /-- ACC_W: bits of `acc` (D7). -/
  accW : Nat
  /-- CC_W: bits of `ch_count` (D7). -/
  ccW : Nat
  /-- PICK_W: bits of one packed pick word of the ROM (D10). -/
  pickW : Nat
  /-- CMD_W: bits of the command opcode (D11). -/
  cmdW : Nat
  deriving DecidableEq, Repr

namespace Config

/-- This hardware's values of Table R6. -/
abbrev hw : Params where
  maxCh := 18
  timeW := 64
  tick := 1
  gapTicks := 3000
  lockTicks := 200000
  cntW := 32
  chvW := 16
  accW := 5
  ccW := 5
  pickW := 20
  cmdW := 2

/-- What a byte of BUF that nothing has written holds: a free value, one per address, with no body
(R21: "unspecified, not reset"; 93 U6: "any value"). Log 1. -/
opaque bufPowerOn : Nat → Byte

end Config

/-! ### The words whose widths Table R6 gives -/

/-- A timestamp: TIME_W bits, TICK microseconds a unit (R6, R8). -/
abbrev Time := BitVec Config.hw.timeW

/-- A value of the dropped-frame counter: CNT_W bits (R6, R26). -/
abbrev DropCount := BitVec Config.hw.cntW

/-- A channel value: CHV_W bits (R6, R27). -/
abbrev ChannelValue := BitVec Config.hw.chvW

/-- A count of accumulated bytes: ACC_W bits (R6, R22). -/
abbrev ByteCount := BitVec Config.hw.accW

/-- A count of active channels: CC_W bits (R6, R28). -/
abbrev ChannelCount := BitVec Config.hw.ccW

/-- A packed pick word: PICK_W bits (R6, R89). -/
abbrev PickWord := BitVec Config.hw.pickW

/-- A command opcode: CMD_W bits (R6, R81). -/
abbrev CmdWord := BitVec Config.hw.cmdW

end Sys2Proof
end

