-- ==== Sys2Proof/Syntax.lean ====
section
/-! DEFINITION. The abstract syntax: one constructor per row of spec/opcode_table.json (R92: 4 CMD, 5 FRAME, 1 generic
PICK, 54 ROM words). -/

namespace Sys2Proof

/-- The three formats of R80. -/
inductive Format where
  /-- 2 bits, on the port `cmd[1:0]`. -/
  | cmd
  /-- 200 bits, the 25 bytes of a full buffer. -/
  | frame
  /-- 20 bits, one ROM entry. -/
  | pick
  deriving DecidableEq, Repr

/-- One pick entry of the ChannelBitSpec table: `{source_byte_offset, right_shift, mask, left_shift}` (R89, Table R89). -/
structure PickEntry where
  off : BitVec 5
  rsh : BitVec 3
  mask : BitVec 8
  lsh : BitVec 4
  deriving DecidableEq, Repr

/-- The operands every FRAME row carries (Table R84, Table R86): the 176-bit channel field F[183:8], the digital bits
F[184] and F[185], and the four flag bits F[191:188] that the block ignores. -/
structure FramePayload where
  chfield : BitVec 176
  d17 : Bool
  d18 : Bool
  unused : BitVec 4
  deriving DecidableEq, Repr

/-- Raw channel `k` of a payload, `P[11k+10 : 11k]` (R65). -/
def FramePayload.raw (p : FramePayload) (k : Nat) : BitVec 11 := p.chfield.extractLsb' (11 * k) 11

/-- The instructions of SBUS-CORE: commands, frame classes and pick words. -/
inductive Instr where
  /-- NOP (R111). -/
  | nop
  /-- POLL (R112). -/
  | poll
  /-- REINIT (R113). -/
  | reinit
  /-- The reserved command word 11 (R114). -/
  | rsvd
  /-- FRAME.SIGLOSS: markers good, both failsafe bits set (R154). -/
  | frameSigloss (p : FramePayload)
  /-- FRAME.VALID: markers good, neither failsafe bit set (R180). -/
  | frameValid (p : FramePayload)
  /-- FRAME.VALID.SL: markers good, `siglost` alone set (R180). -/
  | frameValidSl (p : FramePayload)
  /-- FRAME.VALID.FS: markers good, `failsafe` alone set (R180). -/
  | frameValidFs (p : FramePayload)
  /-- FRAME.CORRUPT: a marker is wrong (R152). -/
  | frameCorrupt (start stop : Byte) (siglost failsafe : Bool) (p : FramePayload)
  /-- PICK: a pick word by itself (R172). -/
  | pick (e : PickEntry)
  /-- PICK.c<row>.e<entry>: the word of that ROM slot (R174). -/
  | pickC0E0 | pickC0E1 | pickC0E2
  | pickC1E0 | pickC1E1 | pickC1E2
  | pickC2E0 | pickC2E1 | pickC2E2
  | pickC3E0 | pickC3E1 | pickC3E2
  | pickC4E0 | pickC4E1 | pickC4E2
  | pickC5E0 | pickC5E1 | pickC5E2
  | pickC6E0 | pickC6E1 | pickC6E2
  | pickC7E0 | pickC7E1 | pickC7E2
  | pickC8E0 | pickC8E1 | pickC8E2
  | pickC9E0 | pickC9E1 | pickC9E2
  | pickC10E0 | pickC10E1 | pickC10E2
  | pickC11E0 | pickC11E1 | pickC11E2
  | pickC12E0 | pickC12E1 | pickC12E2
  | pickC13E0 | pickC13E1 | pickC13E2
  | pickC14E0 | pickC14E1 | pickC14E2
  | pickC15E0 | pickC15E1 | pickC15E2
  | pickC16E0 | pickC16E1 | pickC16E2
  | pickC17E0 | pickC17E1 | pickC17E2
  deriving DecidableEq, Repr

/-- The format of an instruction's row in the opcode table (R92). -/
def Instr.format : Instr → Format
  | .nop | .poll | .reinit | .rsvd => .cmd
  | .frameSigloss _ | .frameValid _ | .frameValidSl _ | .frameValidFs _ | .frameCorrupt _ _ _ _ _ => .frame
  | .pick _ => .pick
  | .pickC0E0 | .pickC0E1 | .pickC0E2 => .pick
  | .pickC1E0 | .pickC1E1 | .pickC1E2 => .pick
  | .pickC2E0 | .pickC2E1 | .pickC2E2 => .pick
  | .pickC3E0 | .pickC3E1 | .pickC3E2 => .pick
  | .pickC4E0 | .pickC4E1 | .pickC4E2 => .pick
  | .pickC5E0 | .pickC5E1 | .pickC5E2 => .pick
  | .pickC6E0 | .pickC6E1 | .pickC6E2 => .pick
  | .pickC7E0 | .pickC7E1 | .pickC7E2 => .pick
  | .pickC8E0 | .pickC8E1 | .pickC8E2 => .pick
  | .pickC9E0 | .pickC9E1 | .pickC9E2 => .pick
  | .pickC10E0 | .pickC10E1 | .pickC10E2 => .pick
  | .pickC11E0 | .pickC11E1 | .pickC11E2 => .pick
  | .pickC12E0 | .pickC12E1 | .pickC12E2 => .pick
  | .pickC13E0 | .pickC13E1 | .pickC13E2 => .pick
  | .pickC14E0 | .pickC14E1 | .pickC14E2 => .pick
  | .pickC15E0 | .pickC15E1 | .pickC15E2 => .pick
  | .pickC16E0 | .pickC16E1 | .pickC16E2 => .pick
  | .pickC17E0 | .pickC17E1 | .pickC17E2 => .pick

end Sys2Proof
end

