-- ==== Sys2Proof/WellFormed.lean ====
section
/-! DEFINITION. What an instruction must satisfy beyond its types: the reserved pick encodings (R90, 93 U2) and the
condition of the class CORRUPT (R87). -/

namespace Sys2Proof

/-- A pick word that R90 and 93 U2 leave a meaning: `off` at most 22, `lsh` at most 10, and `mask << lsh` at most 0x7FF.
The bounds hold for empty entries (mask 0) too: R90 makes no exception for them (log 9). -/
def PickEntry.wf (e : PickEntry) : Bool :=
  e.off.toNat ≤ 22 && e.lsh.toNat ≤ 10 && e.mask.toNat <<< e.lsh.toNat ≤ 0x7FF

/-- An instruction that some word of its format encodes: a pick word is not reserved, and a CORRUPT frame has a wrong
marker (R87 test 1). Every other instruction is well formed by its type. -/
def Instr.wf : Instr → Bool
  | .pick e => e.wf
  | .frameCorrupt start stop _ _ _ => start != Config.startMark || stop != Config.endMark
  | .nop | .poll | .reinit | .rsvd => true
  | .frameSigloss _ | .frameValid _ | .frameValidSl _ | .frameValidFs _ => true
  | .pickC0E0 | .pickC0E1 | .pickC0E2 => true
  | .pickC1E0 | .pickC1E1 | .pickC1E2 => true
  | .pickC2E0 | .pickC2E1 | .pickC2E2 => true
  | .pickC3E0 | .pickC3E1 | .pickC3E2 => true
  | .pickC4E0 | .pickC4E1 | .pickC4E2 => true
  | .pickC5E0 | .pickC5E1 | .pickC5E2 => true
  | .pickC6E0 | .pickC6E1 | .pickC6E2 => true
  | .pickC7E0 | .pickC7E1 | .pickC7E2 => true
  | .pickC8E0 | .pickC8E1 | .pickC8E2 => true
  | .pickC9E0 | .pickC9E1 | .pickC9E2 => true
  | .pickC10E0 | .pickC10E1 | .pickC10E2 => true
  | .pickC11E0 | .pickC11E1 | .pickC11E2 => true
  | .pickC12E0 | .pickC12E1 | .pickC12E2 => true
  | .pickC13E0 | .pickC13E1 | .pickC13E2 => true
  | .pickC14E0 | .pickC14E1 | .pickC14E2 => true
  | .pickC15E0 | .pickC15E1 | .pickC15E2 => true
  | .pickC16E0 | .pickC16E1 | .pickC16E2 => true
  | .pickC17E0 | .pickC17E1 | .pickC17E2 => true

end Sys2Proof
end

