-- ==== Sys2Proof/Decode.lean ====
section
/-! DEFINITION. Decoding and encoding of the three formats (30_encoding.md), the contents of the ROM (R174), and the byte
and bit helpers they use. Decoding is total and rejects by name. -/

namespace Sys2Proof

/-! ### Bytes and bits -/

/-- The number whose bytes, least significant first, are the list. -/
def leNat : List Byte → Nat
  | [] => 0
  | b :: bs => b.toNat + 256 * leNat bs

/-- The `n` low bytes of a number, least significant first. -/
def leBytes : Nat → Nat → List Byte
  | 0, _ => []
  | n + 1, w => BitVec.ofNat 8 w :: leBytes n (w / 256)

/-! ### The pick word (R89) -/

/-- The fields of a pick word: off[19:15], rsh[14:12], mask[11:4], lsh[3:0] (Table R89). -/
def unpackPick (w : PickWord) : PickEntry where
  off := w.extractLsb' 15 5
  rsh := w.extractLsb' 12 3
  mask := w.extractLsb' 4 8
  lsh := w.extractLsb' 0 4

/-- The pick word of four fields (Table R89). -/
def packPick (e : PickEntry) : PickWord := e.off ++ e.rsh ++ e.mask ++ e.lsh

/-- The 54 words of the ROM, row by row (Table R174). -/
def romTable : Vector (Vector (PickWord) 3) 18 := #v[
  #v[0x00FF0, 0x08078, 0x00000],
  #v[0x0B1F0, 0x103F5, 0x00000],
  #v[0x16030, 0x18FF2, 0x2001A],
  #v[0x217F0, 0x280F7, 0x00000],
  #v[0x2C0F0, 0x307F4, 0x00000],
  #v[0x37010, 0x38FF1, 0x40039],
  #v[0x423F0, 0x481F6, 0x00000],
  #v[0x4D070, 0x50FF3, 0x00000],
  #v[0x58FF0, 0x60078, 0x00000],
  #v[0x631F0, 0x683F5, 0x00000],
  #v[0x6E030, 0x70FF2, 0x7801A],
  #v[0x797F0, 0x800F7, 0x00000],
  #v[0x840F0, 0x887F4, 0x00000],
  #v[0x8F010, 0x90FF1, 0x98039],
  #v[0x9A3F0, 0xA01F6, 0x00000],
  #v[0xA5070, 0xA8FF3, 0x00000],
  #v[0x00000, 0x00000, 0x00000],
  #v[0x00000, 0x00000, 0x00000]]

/-- The ROM word of row `k`, entry `j` (R33, R60). -/
def romWord (k : Fin 18) (j : Fin 3) : PickWord := romTable[k][j]

/-- The ROM entry of row `k`, entry `j`: `ROM[k][j]` of R9. -/
def romEntry (k : Fin 18) (j : Fin 3) : PickEntry := unpackPick (romWord k j)

/-- The instructions of the 54 ROM slots, row by row: row `k`, entry `j` is PICK.c<k>.e<j> (R92). -/
def romInstrTable : Vector (Vector Instr 3) 18 := #v[
  #v[.pickC0E0, .pickC0E1, .pickC0E2],
  #v[.pickC1E0, .pickC1E1, .pickC1E2],
  #v[.pickC2E0, .pickC2E1, .pickC2E2],
  #v[.pickC3E0, .pickC3E1, .pickC3E2],
  #v[.pickC4E0, .pickC4E1, .pickC4E2],
  #v[.pickC5E0, .pickC5E1, .pickC5E2],
  #v[.pickC6E0, .pickC6E1, .pickC6E2],
  #v[.pickC7E0, .pickC7E1, .pickC7E2],
  #v[.pickC8E0, .pickC8E1, .pickC8E2],
  #v[.pickC9E0, .pickC9E1, .pickC9E2],
  #v[.pickC10E0, .pickC10E1, .pickC10E2],
  #v[.pickC11E0, .pickC11E1, .pickC11E2],
  #v[.pickC12E0, .pickC12E1, .pickC12E2],
  #v[.pickC13E0, .pickC13E1, .pickC13E2],
  #v[.pickC14E0, .pickC14E1, .pickC14E2],
  #v[.pickC15E0, .pickC15E1, .pickC15E2],
  #v[.pickC16E0, .pickC16E1, .pickC16E2],
  #v[.pickC17E0, .pickC17E1, .pickC17E2]]

/-- The instruction of a ROM slot. -/
def romInstr (k : Fin 18) (j : Fin 3) : Instr := romInstrTable[k][j]

/-- Every ROM slot, row by row. -/
def romSlots : List (Fin 18 × Fin 3) :=
  (List.finRange 18).flatMap fun k => (List.finRange 3).map fun j => (k, j)

/-- The slot of a pick word that comes without a location: the one slot that holds it, if exactly one does.
The empty word 0x00000 fills eighteen slots and names none of them (log 10). -/
def uniqueSlot (w : PickWord) : Option (Fin 18 × Fin 3) :=
  match romSlots.filter fun s => romWord s.1 s.2 == w with
  | [s] => some s
  | _ => none

/-! ### The frame word (R84 to R88) -/

/-- The frame word of its fields, byte 0 least significant (R85, R88): end, unused flag bits, failsafe, siglost, d18, d17,
channel field, start. -/
def frameWordOf (start stop : Byte) (siglost failsafe : Bool) (p : FramePayload) : BitVec 200 :=
  stop ++ (p.unused ++ BitVec.ofBool failsafe ++ BitVec.ofBool siglost ++ BitVec.ofBool p.d18 ++ BitVec.ofBool p.d17)
    ++ p.chfield ++ start

/-- F[7:0]. -/
def frameStart (F : BitVec 200) : Byte := F.extractLsb' 0 8

/-- F[199:192]. -/
def frameEnd (F : BitVec 200) : Byte := F.extractLsb' 192 8

/-- F[186] (Table R86). -/
def frameSiglost (F : BitVec 200) : Bool := F.getLsbD 186

/-- F[187] (Table R86). -/
def frameFailsafe (F : BitVec 200) : Bool := F.getLsbD 187

/-- The operands of a FRAME row: F[183:8], F[184], F[185], F[191:188]. -/
def framePayload (F : BitVec 200) : FramePayload where
  chfield := F.extractLsb' 8 176
  d17 := F.getLsbD 184
  d18 := F.getLsbD 185
  unused := F.extractLsb' 188 4

/-- The class of a frame word, tested in the order of R87: markers, then both failsafe bits, then VALID with its three
flag combinations. Every word has exactly one class. -/
def decodeFrame (F : BitVec 200) : Instr :=
  if frameStart F ≠ Config.startMark ∨ frameEnd F ≠ Config.endMark then
    .frameCorrupt (frameStart F) (frameEnd F) (frameSiglost F) (frameFailsafe F) (framePayload F)
  else
    match frameSiglost F, frameFailsafe F with
    | true, true => .frameSigloss (framePayload F)
    | false, false => .frameValid (framePayload F)
    | true, false => .frameValidSl (framePayload F)
    | false, true => .frameValidFs (framePayload F)

/-! ### The command word (R81, R82) -/

/-- The command of `cmd[1:0]` (Table R82). -/
def decodeCmd (w : CmdWord) : Instr :=
  match w.toNat with
  | 0 => .nop
  | 1 => .poll
  | 2 => .reinit
  | _ => .rsvd

/-! ### The decoder and the encoder -/

/-- An encoded instruction: the bits, with the place they stand in. A ROM word is read at its (row, entry) address (R60),
which is what tells the eighteen empty entries apart. -/
inductive Encoded where
  /-- On the command port. -/
  | cmd (w : CmdWord)
  /-- In a full frame buffer. -/
  | frame (w : BitVec 200)
  /-- In the ROM, at row `k`, entry `j`. -/
  | romSlot (k : Fin 18) (j : Fin 3) (w : PickWord)
  /-- A pick word by itself (R90: "a model that defines pick evaluation over all 2^20 words"). -/
  | pickWord (w : PickWord)
  deriving DecidableEq, Repr

/-- The format of an encoded instruction. -/
def Encoded.format : Encoded → Format
  | .cmd _ => .cmd
  | .frame _ => .frame
  | .romSlot _ _ _ | .pickWord _ => .pick

/-- Why bits are no instruction. -/
inductive DecodeError where
  /-- A reserved pick word (R90, 93 U2). -/
  | pickReserved (w : PickWord)
  /-- Not the word the constant ROM holds at that slot (R33). -/
  | romWordMismatch (k : Fin 18) (j : Fin 3)
  /-- Not the number of bytes the format has (R80: all formats have a fixed length). -/
  | wrongLength (n : Nat)
  /-- Bits set above the format's width. -/
  | spareBits
  deriving DecidableEq, Repr

/-- The instruction of an encoded instruction, or the reason there is none. -/
def decode : Encoded → Except DecodeError Instr
  | .cmd w => .ok (decodeCmd w)
  | .frame F => .ok (decodeFrame F)
  | .romSlot k j w => if w = romWord k j then .ok (romInstr k j) else .error (.romWordMismatch k j)
  | .pickWord w => if (unpackPick w).wf then .ok (.pick (unpackPick w)) else .error (.pickReserved w)

/-- The bits of an instruction and the place they stand in, from the same tables (R82, R87, R89, R174). -/
def encode : Instr → Encoded
  | .nop => .cmd 0b00
  | .poll => .cmd 0b01
  | .reinit => .cmd 0b10
  | .rsvd => .cmd 0b11
  | .frameSigloss p => .frame (frameWordOf Config.startMark Config.endMark true true p)
  | .frameValid p => .frame (frameWordOf Config.startMark Config.endMark false false p)
  | .frameValidSl p => .frame (frameWordOf Config.startMark Config.endMark true false p)
  | .frameValidFs p => .frame (frameWordOf Config.startMark Config.endMark false true p)
  | .frameCorrupt start stop siglost failsafe p => .frame (frameWordOf start stop siglost failsafe p)
  | .pick e => .pickWord (packPick e)
  | .pickC0E0 => .romSlot 0 0 0x00FF0
  | .pickC0E1 => .romSlot 0 1 0x08078
  | .pickC0E2 => .romSlot 0 2 0x00000
  | .pickC1E0 => .romSlot 1 0 0x0B1F0
  | .pickC1E1 => .romSlot 1 1 0x103F5
  | .pickC1E2 => .romSlot 1 2 0x00000
  | .pickC2E0 => .romSlot 2 0 0x16030
  | .pickC2E1 => .romSlot 2 1 0x18FF2
  | .pickC2E2 => .romSlot 2 2 0x2001A
  | .pickC3E0 => .romSlot 3 0 0x217F0
  | .pickC3E1 => .romSlot 3 1 0x280F7
  | .pickC3E2 => .romSlot 3 2 0x00000
  | .pickC4E0 => .romSlot 4 0 0x2C0F0
  | .pickC4E1 => .romSlot 4 1 0x307F4
  | .pickC4E2 => .romSlot 4 2 0x00000
  | .pickC5E0 => .romSlot 5 0 0x37010
  | .pickC5E1 => .romSlot 5 1 0x38FF1
  | .pickC5E2 => .romSlot 5 2 0x40039
  | .pickC6E0 => .romSlot 6 0 0x423F0
  | .pickC6E1 => .romSlot 6 1 0x481F6
  | .pickC6E2 => .romSlot 6 2 0x00000
  | .pickC7E0 => .romSlot 7 0 0x4D070
  | .pickC7E1 => .romSlot 7 1 0x50FF3
  | .pickC7E2 => .romSlot 7 2 0x00000
  | .pickC8E0 => .romSlot 8 0 0x58FF0
  | .pickC8E1 => .romSlot 8 1 0x60078
  | .pickC8E2 => .romSlot 8 2 0x00000
  | .pickC9E0 => .romSlot 9 0 0x631F0
  | .pickC9E1 => .romSlot 9 1 0x683F5
  | .pickC9E2 => .romSlot 9 2 0x00000
  | .pickC10E0 => .romSlot 10 0 0x6E030
  | .pickC10E1 => .romSlot 10 1 0x70FF2
  | .pickC10E2 => .romSlot 10 2 0x7801A
  | .pickC11E0 => .romSlot 11 0 0x797F0
  | .pickC11E1 => .romSlot 11 1 0x800F7
  | .pickC11E2 => .romSlot 11 2 0x00000
  | .pickC12E0 => .romSlot 12 0 0x840F0
  | .pickC12E1 => .romSlot 12 1 0x887F4
  | .pickC12E2 => .romSlot 12 2 0x00000
  | .pickC13E0 => .romSlot 13 0 0x8F010
  | .pickC13E1 => .romSlot 13 1 0x90FF1
  | .pickC13E2 => .romSlot 13 2 0x98039
  | .pickC14E0 => .romSlot 14 0 0x9A3F0
  | .pickC14E1 => .romSlot 14 1 0xA01F6
  | .pickC14E2 => .romSlot 14 2 0x00000
  | .pickC15E0 => .romSlot 15 0 0xA5070
  | .pickC15E1 => .romSlot 15 1 0xA8FF3
  | .pickC15E2 => .romSlot 15 2 0x00000
  | .pickC16E0 => .romSlot 16 0 0x00000
  | .pickC16E1 => .romSlot 16 1 0x00000
  | .pickC16E2 => .romSlot 16 2 0x00000
  | .pickC17E0 => .romSlot 17 0 0x00000
  | .pickC17E1 => .romSlot 17 1 0x00000
  | .pickC17E2 => .romSlot 17 2 0x00000

/-- A pick word without a location: the ROM slot that alone holds it, else the generic row (log 10). -/
def locatePick (w : PickWord) : Encoded :=
  match uniqueSlot w with
  | some (k, j) => .romSlot k j w
  | none => .pickWord w

/-- The bytes of an instruction of a format, least significant byte first, read as encoded bits. -/
def encodedOfBytes (f : Format) (bs : List Byte) : Except DecodeError Encoded :=
  match f with
  | .cmd =>
    if bs.length ≠ 1 then .error (.wrongLength bs.length)
    else if leNat bs < 2 ^ Config.hw.cmdW then .ok (.cmd (BitVec.ofNat Config.hw.cmdW (leNat bs))) else .error .spareBits
  | .frame =>
    if bs.length ≠ Config.frameLen then .error (.wrongLength bs.length) else .ok (.frame (BitVec.ofNat 200 (leNat bs)))
  | .pick =>
    if bs.length ≠ 3 then .error (.wrongLength bs.length)
    else if leNat bs < 2 ^ Config.hw.pickW then .ok (locatePick (BitVec.ofNat Config.hw.pickW (leNat bs))) else .error .spareBits

/-- Decoding of any bytes in a format, total. -/
def decodeBytes (f : Format) (bs : List Byte) : Except DecodeError Instr :=
  (encodedOfBytes f bs).bind decode

/-- The bytes an instruction of a format takes, in whole bytes: 2, 200 and 20 bits. -/
def Format.bytes : Format → Nat
  | .cmd => 1
  | .frame => Config.frameLen
  | .pick => 3

/-- The format of an opcode-table row of so many bits, in whole bytes or as the table counts them (log 19). -/
def formatOfBits (nbits : Nat) : Option Format :=
  if nbits = 0 then none
  else if nbits ≤ 8 then some .cmd
  else if nbits ≤ 24 then some .pick
  else if nbits ≤ 200 then some .frame
  else none

/-- The instruction the decoder reads from a row's bits, numbered as the table numbers them. -/
def decodeTableWord (nbits w : Nat) : Option Instr :=
  match formatOfBits nbits with
  | none => none
  | some f => if w < 256 ^ f.bytes then (decodeBytes f (leBytes f.bytes w)).toOption else none

end Sys2Proof
end

