-- ==== Sys2Proof/Machine/State.lean ====
section
/-! DEFINITION. The state of SBUS-CORE as plain data: the eleven items of Table R20, the output pulse of R32, the hidden
registers of R36, and the environment's inputs (R10, R39). -/

namespace Sys2Proof.Machine

/-- The frame buffer BUF (R60 space 1): cells (address, byte), addresses strictly rising and below 25. A byte nothing has
written since power-on has no cell. -/
abbrev Memory := List Host.Cell

/-- The canonical form of BUF. -/
abbrev Memory.wf (m : Memory) : Prop :=
  m.Pairwise (fun c d => c.1 < d.1) ∧ ∀ c ∈ m, c.1 < Config.frameLen

/-- The hidden phase register of R36 item 1. Commands are atomic, so it is `idle` between operations; the other values are
the points inside a POLL at which a frame word or a pick word is the next thing to be run (log 6). -/
inductive Phase where
  /-- No operation in progress: `cmd_ready` is 1. -/
  | idle
  /-- A full buffer is about to be decoded (DISPATCH, R136). -/
  | dispatch
  /-- The ROM word of row `k`, entry `j` is about to be evaluated (EXTRACT, R173). -/
  | extract (k : Fin 18) (j : Fin 3)
  /-- A pick word by itself is about to be evaluated (R90). -/
  | pickWord (w : PickWord)
  deriving DecidableEq, Repr

/-- A command offered at the command port (R81, Table R39), with what the environment decides for it: the value of the
`now` pins in the cycle of acceptance, the bytes that reach the source before it, and how many bytes the source will give
before `src_valid` falls (R67: any number, 0 for a failed read). -/
structure Request where
  cmd : CmdWord
  now : Time
  arrivals : List Byte
  grant : Nat
  deriving DecidableEq, Repr

/-- One thing the outside world does to the block. -/
inductive Input where
  /-- The caller offers a command (R81). -/
  | command (r : Request)
  /-- `rst` is asserted and released (R240); `popped` bytes had been taken from the source by a command it cut short. -/
  | rst (popped : Nat)
  deriving DecidableEq, Repr

/-- The state of the machine. -/
structure State where
  /-- `buf[0..24]` (R21). -/
  buf : Memory
  /-- `acc`: bytes accumulated in the current partial frame (R22). -/
  acc : ByteCount
  /-- `last_byte_time` (R23). -/
  lastByteTime : Time
  /-- `last_good_time` (R24). -/
  lastGoodTime : Time
  /-- `good_valid` (R25). -/
  goodValid : Bool
  /-- `dropcnt` (R26). -/
  dropcnt : DropCount
  /-- `ch[0..17]` (R27). -/
  ch : Vector ChannelValue 18
  /-- `ch_count` (R28). -/
  chCount : ChannelCount
  /-- `frame_ts` (R29). -/
  frameTs : Time
  /-- `signal_lost` (R30). -/
  signalLost : Bool
  /-- `locked` (R31). -/
  locked : Bool
  /-- `report_due` of the step just taken: an output event, not architectural state (R32; log 11). -/
  reportDue : Bool
  /-- Hidden: the phase register (R36). -/
  phase : Phase
  /-- Hidden: the latched copy of `now` (R36, R130), the decoder's `frame_time` (R150). -/
  nowLatch : Time
  /-- Hidden: the temporary `value` of EXTRACT (R35, R173). -/
  value : BitVec 11
  /-- Environment: inputs offered and not yet taken, first first (log 5). -/
  pending : List Input
  /-- Environment: the `now[63:0]` pins (Table R39). -/
  nowIn : Time
  /-- Environment: the bytes the source holds, oldest first (R36 item 3, R67). -/
  src : List Byte
  /-- Environment: how many bytes the source gives before `src_valid` falls (R67). -/
  srcGrant : Nat
  deriving DecidableEq, Repr

/-- Why the machine stops with a fault: never (R210: "The block never traps, faults, halts or raises"). No constructor, so
no step can answer a fault. -/
inductive Fault where
  deriving DecidableEq, Repr

/-- Why an instruction has no step. -/
inductive Refusal where
  /-- No meaning has been written for the instruction. Raised by exec's arm only; safe. -/
  | notModelled (mnemonic : String)
  /-- A reserved encoding, which R90 and 93 U2 tell a model to refuse: a pick word outside its ranges. Raised by the
  generic PICK row and by the fetch of a pick word; safe (the constant ROM holds no such word). -/
  | reservedEncoding (e : DecodeError)
  deriving DecidableEq, Repr

/-- The machine right after hardware reset (R240): every item of Table R20 but `buf` is 0, `report_due` is low, the block
is idle. Nothing has been written to `buf` (R21). The hidden registers and the environment: log 2. -/
def State.reset : State where
  buf := []
  acc := 0
  lastByteTime := 0
  lastGoodTime := 0
  goodValid := false
  dropcnt := 0
  ch := Vector.replicate 18 0
  chCount := 0
  frameTs := 0
  signalLost := false
  locked := false
  reportDue := false
  phase := .idle
  nowLatch := 0
  value := 0
  pending := []
  nowIn := 0
  src := []
  srcGrant := 0

end Sys2Proof.Machine
end

