-- ==== Sys2Proof/Machine/Operands.lean ====
section
/-! DEFINITION. How operands are read and assembled: time arithmetic (R138), bytes of BUF (R66), the frame word (R85), the
pieces and raw values of the extraction engine (R172, R173), the normalizations (R176, R177), the answer of the byte
source (R67). -/

namespace Sys2Proof.Machine

/-! ### Time -/

/-- Wraparound-safe subtraction of timestamps: `(a - b) mod 2^TIME_W`, read as an unsigned number (R138, R6). -/
def tsub (a b : Time) : Nat := (a - b).toNat

/-! ### BUF -/

/-- The byte last written at an address of BUF, if any has been. -/
def Memory.find : Memory → Nat → Option Byte
  | [], _ => none
  | c :: m, a => if c.1 = a then some c.2 else Memory.find m a

/-- The byte BUF holds at an address: the byte last written, else the free value of log 1. -/
def Memory.read (m : Memory) (a : Nat) : Byte := (Memory.find m a).getD (Config.bufPowerOn a)

/-- The 25 bytes BUF holds, `buf[0]` first. -/
def Memory.bytes (m : Memory) : List Byte := (List.range Config.frameLen).map (Memory.read m)

/-- The frame word F of a buffer: `F[8i+7 : 8i] = buf[i]` (R85). -/
def frameWord (m : Memory) : BitVec 200 := BitVec.ofNat 200 (leNat (Memory.bytes m))

/-- The buffer whose frame word is F, all 25 bytes written. -/
def bufferOf (F : BitVec 200) : Memory :=
  (List.range Config.frameLen).map fun i => (i, F.extractLsb' (8 * i) 8)

/-! ### The extraction engine -/

/-- PICK evaluation (R172): right shift of the data byte `buf[1 + off]`, AND with the mask, left shift; an entry with mask
0 is skipped and reads no byte. -/
def pickPiece (b : Memory) (e : PickEntry) : BitVec 11 :=
  if e.mask = 0 then 0
  else (((Memory.read b (1 + e.off.toNat) >>> e.rsh.toNat) &&& e.mask).setWidth 11) <<< e.lsh.toNat

/-- EXTRACT (R173): the raw value of a row, the OR of its three pieces onto 0. -/
def rawChannel (b : Memory) (k : Fin 18) : BitVec 11 :=
  (List.finRange 3).foldl (fun value j => value ||| pickPiece b (romEntry k j)) 0

/-- NORM (R176): `zext_16(RAW / 2 + 998)`, the division truncating. -/
def normChannel (raw : BitVec 11) : ChannelValue := BitVec.ofNat Config.hw.chvW (raw.toNat / Config.normDiv + Config.normOff)

/-- DIGITAL (R177): `bit * 1000 + 998`. -/
def digital (bit : Bool) : ChannelValue := BitVec.ofNat Config.hw.chvW (bit.toNat * Config.digScale + Config.normOff)

/-- `n_ch = min(18, MAX_CH)` (R171). -/
def channelCount (p : Params) : Nat := min Config.nRows p.maxCh

/-! ### The byte source -/

/-- The request size of SrcRead, `25 - acc` (R67, R91 item 6). -/
def requestSize (s : State) : Nat := Config.frameLen - s.acc.toNat

/-- The answer of the byte source to SrcRead(25 - acc): the oldest bytes it holds, as many as it gives, at most the request
(R67; log 8). -/
def srcAnswer (s : State) : List Byte := s.src.take (min s.srcGrant (requestSize s))

end Sys2Proof.Machine
end

