-- ==== Sys2Proof/Machine/Flags.lean ====
section
/-! DEFINITION. The tests and flags: the gap gate (R131), the marker and failsafe checks (R151, R153), the lock evaluation
(R137). -/

namespace Sys2Proof.Machine

/-- The gap gate of GAPCHK: more than GAP_TICKS since the last byte-reading POLL, strictly, with a partial frame in the
buffer (R131). -/
def gapExpired (s : State) : Bool :=
  decide (tsub s.nowLatch s.lastByteTime > Config.hw.gapTicks) && decide (s.acc.toNat > 0)

/-- MARKCHK: `corrupt` (R151). -/
def markersBad (b : Memory) : Bool :=
  Memory.read b 0 != Config.startMark || Memory.read b 24 != Config.endMark

/-- FSCHK: bits 2 and 3 of the flags byte, both (R153, R155). -/
def failsafeBoth (b : Memory) : Bool :=
  (Memory.read b Config.flagsIdx).getLsbD 2 && (Memory.read b Config.flagsIdx).getLsbD 3

/-- LOCKEVAL: a VALID frame has been seen and is at most LOCK_TICKS old (R137). -/
def lockEval (s : State) : Bool :=
  s.goodValid && decide (tsub s.nowLatch s.lastGoodTime ≤ Config.hw.lockTicks)

end Sys2Proof.Machine
end

