-- ==== Sys2Proof/Machine/Ops.lean ====
section
/-! DEFINITION. The named operations on memory and registers that the meanings share. -/

namespace Sys2Proof.Machine

/-! ### BUF -/

/-- `buf[a] <- v` (R9, R66), keeping the canonical form. -/
def Memory.write : Memory → Nat → Byte → Memory
  | [], a, v => [(a, v)]
  | c :: m, a, v =>
    if a < c.1 then (a, v) :: c :: m
    else if a = c.1 then (a, v) :: m
    else c :: Memory.write m a v

/-- `buf[a + i] <- bs[i]` for each byte of the list, in stream order (R63, R132). -/
def Memory.writeBytes : Memory → Nat → List Byte → Memory
  | m, _, [] => m
  | m, a, b :: bs => Memory.writeBytes (Memory.write m a b) (a + 1) bs

/-! ### The four absorbed conditions, in place of exceptions -/

/-- The conditions of Table R211. -/
inductive Condition where
  | readEmpty
  | frameTimeout
  | malformedFrame
  | signalLoss
  deriving DecidableEq, Repr

/-- Absorbing a condition: the whole effect Table R211 gives it. There is no other entry sequence, nothing is saved, and
there is nothing to return from (R210, R217). -/
def absorb (c : Condition) (s : State) : State :=
  match c with
  | .readEmpty => s
  | .frameTimeout => { s with dropcnt := s.dropcnt + 1, acc := 0 }
  | .malformedFrame => { s with dropcnt := s.dropcnt + 1 }
  | .signalLoss => { s with chCount := 0, signalLost := true }

/-! ### Reset -/

/-- Every item of Table R20 except `buf` to its reset value: what REINIT and hardware reset share (R113, R240, R241). -/
def clearRegisters (s : State) : State :=
  { s with
    acc := 0
    lastByteTime := 0
    lastGoodTime := 0
    goodValid := false
    dropcnt := 0
    ch := Vector.replicate 18 0
    chCount := 0
    frameTs := 0
    signalLost := false
    locked := false }

/-- Hardware reset (R240): the registers, `report_due` low, idle again; bytes a cut-short command had popped from the
source are lost. `buf` is not written. -/
def hardReset (popped : Nat) (s : State) : State :=
  { clearRegisters s with reportDue := false, phase := .idle, src := s.src.drop popped }

/-! ### The synchronizer's phases (41_synchronizer.md) -/

/-- SAMPLE: the `now` pins are latched once for the whole POLL (R130); no report is due yet. -/
def sample (s : State) : State := { s with nowLatch := s.nowIn, reportDue := false }

/-- GAPCHK: a partial frame that is too old is abandoned (R131). -/
def gapCheck (s : State) : State := if gapExpired s then absorb .frameTimeout s else s

/-- INTAKE of a non-empty answer: the bytes go to `buf[acc..]`, the time and the count are updated (R132, R134), and the
bytes are gone from the source (R67). -/
def intake (rx : List Byte) (s : State) : State :=
  { s with
    buf := Memory.writeBytes s.buf s.acc.toNat rx
    lastByteTime := s.nowLatch
    acc := BitVec.ofNat Config.hw.accW (s.acc.toNat + rx.length)
    src := s.src.drop rx.length }

/-- The end of DISPATCH: the buffer is free for the next frame, whatever the class of this one (R136). -/
def releaseBuffer (s : State) : State := { s with acc := 0 }

/-- LOCKEVAL: the `locked` register is written last, on every exit path (R137). -/
def updateLock (s : State) : State := { s with locked := lockEval s }

/-! ### The decoder's phases (42_validator.md, 43_extraction.md) -/

/-- STAMP (R170). -/
def stamp (s : State) : State := { s with lastGoodTime := s.nowLatch, goodValid := true }

/-- The channel loop: EXTRACT and NORM for `k < n_ch`, registers from `n_ch` on not written (R171, R173, R176). -/
def extractChannels (p : Params) (b : Memory) (ch : Vector ChannelValue 18) : Vector ChannelValue 18 :=
  Vector.ofFn fun k => if k.val < channelCount p then normChannel (rawChannel b k) else ch[k]

/-- DIGITAL: with more than 17 channels, channels 16 and 17 come from bits 0 and 1 of the flags byte, over what the loop
wrote there (R177). -/
def digitalChannels (p : Params) (b : Memory) (ch : Vector ChannelValue 18) : Vector ChannelValue 18 :=
  if p.maxCh > 17 then
    (ch.set 16 (digital ((Memory.read b Config.flagsIdx).getLsbD 0))).set 17
      (digital ((Memory.read b Config.flagsIdx).getLsbD 1))
  else ch

/-- The channel registers after a VALID frame in buffer `b`. -/
def writeChannels (p : Params) (b : Memory) (s : State) : State :=
  { s with ch := digitalChannels p b (extractChannels p b s.ch) }

/-- EMIT: count, time and status of the record, and the notification (R178, R179). -/
def emit (p : Params) (s : State) : State :=
  { s with
    chCount := BitVec.ofNat Config.hw.ccW (channelCount p)
    frameTs := s.nowLatch
    signalLost := false
    reportDue := true }

/-- The class VALID as a whole, on the bytes of a buffer (R180): STAMP, the channels, EMIT. -/
def publish (b : Memory) (s : State) : State :=
  emit Config.hw (writeChannels Config.hw b (stamp s))

/-! ### The hidden temporary -/

/-- One turn of EXTRACT's loop: `value <- value | PICK(e)`, on the bytes in BUF (R172, R173). -/
def accumulate (e : PickEntry) (s : State) : State := { s with value := s.value ||| pickPiece s.buf e }

/-! ### The output ports (Table R39) -/

/-- What the outside world sees of the block. -/
structure Ports where
  cmdReady : Bool
  locked : Bool
  reportDue : Bool
  ch : Vector ChannelValue 18
  chCount : ChannelCount
  frameTs : Time
  signalLost : Bool
  dropcnt : DropCount
  deriving DecidableEq, Repr

/-- The output ports of a state (R26 to R32, Table R39). `buf`, `acc` and the other timestamps have no port (R223). -/
def State.ports (s : State) : Ports where
  cmdReady := decide (s.phase = .idle)
  locked := s.locked
  reportDue := s.reportDue
  ch := s.ch
  chCount := s.chCount
  frameTs := s.frameTs
  signalLost := s.signalLost
  dropcnt := s.dropcnt

end Sys2Proof.Machine
end

