-- ==== Sys2Proof/Machine/Frame.lean ====
section
/-! DEFINITION. The FRAME family: the frame validator (42_validator.md) and the class VALID (43_extraction.md R180). The
frame's time is the latched `now` of the POLL in progress (R150). The decoder writes neither `buf` nor `acc`,
`last_byte_time` or `locked` (R150). -/

namespace Sys2Proof.Machine

/-- DECODE (Listing R112, R150): the validator and the extraction engine on the bytes of a full buffer, in place. -/
def decodeBuffer (b : Memory) (s : State) : State :=
  if markersBad b then absorb .malformedFrame s
  else if failsafeBoth b then absorb .signalLoss s
  else publish b s

/-- FRAME.CORRUPT (R152): one drop, nothing else. -/
def execFrameCorrupt (_start _stop : Byte) (_siglost _failsafe : Bool) (_p : FramePayload) (s : State) :
    Host.Outcome State Fault Refusal :=
  .next (absorb .malformedFrame s)

/-- FRAME.SIGLOSS (R154): no active channels, `signal_lost`; the frame's channel field and digital bits are ignored. -/
def execFrameSigloss (_p : FramePayload) (s : State) : Host.Outcome State Fault Refusal :=
  .next (absorb .signalLoss s)

/-- FRAME.VALID (R180). -/
def execFrameValid (p : FramePayload) (s : State) : Host.Outcome State Fault Refusal :=
  .next (publish (bufferOf (frameWordOf Config.startMark Config.endMark false false p)) s)

/-- FRAME.VALID.SL (R180, R155): `siglost` alone changes nothing. -/
def execFrameValidSl (p : FramePayload) (s : State) : Host.Outcome State Fault Refusal :=
  .next (publish (bufferOf (frameWordOf Config.startMark Config.endMark true false p)) s)

/-- FRAME.VALID.FS (R180, R155): `failsafe` alone changes nothing. -/
def execFrameValidFs (p : FramePayload) (s : State) : Host.Outcome State Fault Refusal :=
  .next (publish (bufferOf (frameWordOf Config.startMark Config.endMark false true p)) s)

end Sys2Proof.Machine
end

