-- ==== Sys2Proof/Machine/Command.lean ====
section
/-! DEFINITION. The CMD family (40_commands.md): NOP, POLL, REINIT and the reserved command word. -/

namespace Sys2Proof.Machine

/-- NOP (R111): nothing. -/
def execNop (s : State) : Host.Outcome State Fault Refusal := .next s

/-- The reserved command word (R114): the hardware accepts it and changes no state (log 7). -/
def execRsvd (s : State) : Host.Outcome State Fault Refusal := .next s

/-- REINIT (R113): every item of Table R20 except `buf`; no byte is read from the source. -/
def execReinit (s : State) : Host.Outcome State Fault Refusal := .next (clearRegisters s)

/-! ### POLL (Listing R112), phase by phase -/

/-- The state the read of a POLL sees: after SAMPLE and GAPCHK. -/
def pollGated (s : State) : State := gapCheck (sample s)

/-- `rx`: what the source answers to this POLL's one SrcRead (R132). -/
def pollBytes (s : State) : List Byte := srcAnswer (pollGated s)

/-- The state after INTAKE of at least one byte. -/
def pollFilled (s : State) : State := intake (pollBytes s) (pollGated s)

/-- DISPATCH (R136): DECODE on the buffer in place, then the buffer is released. -/
def dispatch (s : State) : State := releaseBuffer (decodeBuffer s.buf s)

/-- POLL (R112): its three exit paths (R133, R135, R136), each ended by LOCKEVAL. -/
def execPoll (s : State) : Host.Outcome State Fault Refusal :=
  if pollBytes s = [] then .next (updateLock (absorb .readEmpty (pollGated s)))
  else if (pollFilled s).acc.toNat < Config.frameLen then .next (updateLock (pollFilled s))
  else .next (updateLock (dispatch (pollFilled s)))

/-! ### Labels of a POLL (R115) and the conditions it notes (R211, R216): no register holds them -/

/-- The outcome labels of R115. -/
inductive PollOutcome where
  /-- IDLE: zero bytes read. -/
  | idle
  /-- PARTIAL: at least one byte read, frame still incomplete. -/
  | incomplete
  /-- A frame was completed and is VALID. -/
  | valid
  /-- A frame was completed and is SIGLOSS. -/
  | sigloss
  /-- A frame was completed and is CORRUPT. -/
  | corrupt
  deriving DecidableEq, Repr

/-- The outcome label of a POLL issued in state `s` (R115). -/
def pollOutcome (s : State) : PollOutcome :=
  if pollBytes s = [] then .idle
  else if (pollFilled s).acc.toNat < Config.frameLen then .incomplete
  else if markersBad (pollFilled s).buf then .corrupt
  else if failsafeBoth (pollFilled s).buf then .sigloss
  else .valid

/-- `timeout_drop`: GAPCHK fired in this POLL (R115). -/
def timeoutDrop (s : State) : Bool := gapExpired (sample s)

/-- The conditions a POLL issued in state `s` notes, in the order it tests them (R216). -/
def pollConditions (s : State) : List Condition :=
  (if timeoutDrop s then [.frameTimeout] else []) ++
    match pollOutcome s with
    | .idle => [.readEmpty]
    | .corrupt => [.malformedFrame]
    | .sigloss => [.signalLoss]
    | .incomplete | .valid => []

end Sys2Proof.Machine
end

