-- ==== Sys2Proof/Machine/Pick.lean ====
section
/-! DEFINITION. The PICK family: evaluation of one table entry (R172) into the temporary `value` of EXTRACT (R173), for the
generic pick word and for each of the 54 ROM words. -/

namespace Sys2Proof.Machine

/-- PICK (R172): a pick word by itself; a reserved one is refused (R90, 93 U2). -/
def execPick (e : PickEntry) (s : State) : Host.Outcome State Fault Refusal :=
  if e.wf then .next (accumulate e s) else .refused (.reservedEncoding (.pickReserved (packPick e)))

/-- PICK.c0.e0 (R174). -/
def execPickC0E0 (s : State) : Host.Outcome State Fault Refusal := .next (accumulate (romEntry 0 0) s)

/-- PICK.c0.e1 (R174). -/
def execPickC0E1 (s : State) : Host.Outcome State Fault Refusal := .next (accumulate (romEntry 0 1) s)

/-- PICK.c0.e2 (R174). -/
def execPickC0E2 (s : State) : Host.Outcome State Fault Refusal := .next (accumulate (romEntry 0 2) s)

/-- PICK.c1.e0 (R174). -/
def execPickC1E0 (s : State) : Host.Outcome State Fault Refusal := .next (accumulate (romEntry 1 0) s)

/-- PICK.c1.e1 (R174). -/
def execPickC1E1 (s : State) : Host.Outcome State Fault Refusal := .next (accumulate (romEntry 1 1) s)

/-- PICK.c1.e2 (R174). -/
def execPickC1E2 (s : State) : Host.Outcome State Fault Refusal := .next (accumulate (romEntry 1 2) s)

/-- PICK.c2.e0 (R174). -/
def execPickC2E0 (s : State) : Host.Outcome State Fault Refusal := .next (accumulate (romEntry 2 0) s)

/-- PICK.c2.e1 (R174). -/
def execPickC2E1 (s : State) : Host.Outcome State Fault Refusal := .next (accumulate (romEntry 2 1) s)

/-- PICK.c2.e2 (R174). -/
def execPickC2E2 (s : State) : Host.Outcome State Fault Refusal := .next (accumulate (romEntry 2 2) s)

/-- PICK.c3.e0 (R174). -/
def execPickC3E0 (s : State) : Host.Outcome State Fault Refusal := .next (accumulate (romEntry 3 0) s)

/-- PICK.c3.e1 (R174). -/
def execPickC3E1 (s : State) : Host.Outcome State Fault Refusal := .next (accumulate (romEntry 3 1) s)

/-- PICK.c3.e2 (R174). -/
def execPickC3E2 (s : State) : Host.Outcome State Fault Refusal := .next (accumulate (romEntry 3 2) s)

/-- PICK.c4.e0 (R174). -/
def execPickC4E0 (s : State) : Host.Outcome State Fault Refusal := .next (accumulate (romEntry 4 0) s)

/-- PICK.c4.e1 (R174). -/
def execPickC4E1 (s : State) : Host.Outcome State Fault Refusal := .next (accumulate (romEntry 4 1) s)

/-- PICK.c4.e2 (R174). -/
def execPickC4E2 (s : State) : Host.Outcome State Fault Refusal := .next (accumulate (romEntry 4 2) s)

/-- PICK.c5.e0 (R174). -/
def execPickC5E0 (s : State) : Host.Outcome State Fault Refusal := .next (accumulate (romEntry 5 0) s)

/-- PICK.c5.e1 (R174). -/
def execPickC5E1 (s : State) : Host.Outcome State Fault Refusal := .next (accumulate (romEntry 5 1) s)

/-- PICK.c5.e2 (R174). -/
def execPickC5E2 (s : State) : Host.Outcome State Fault Refusal := .next (accumulate (romEntry 5 2) s)

/-- PICK.c6.e0 (R174). -/
def execPickC6E0 (s : State) : Host.Outcome State Fault Refusal := .next (accumulate (romEntry 6 0) s)

/-- PICK.c6.e1 (R174). -/
def execPickC6E1 (s : State) : Host.Outcome State Fault Refusal := .next (accumulate (romEntry 6 1) s)

/-- PICK.c6.e2 (R174). -/
def execPickC6E2 (s : State) : Host.Outcome State Fault Refusal := .next (accumulate (romEntry 6 2) s)

/-- PICK.c7.e0 (R174). -/
def execPickC7E0 (s : State) : Host.Outcome State Fault Refusal := .next (accumulate (romEntry 7 0) s)

/-- PICK.c7.e1 (R174). -/
def execPickC7E1 (s : State) : Host.Outcome State Fault Refusal := .next (accumulate (romEntry 7 1) s)

/-- PICK.c7.e2 (R174). -/
def execPickC7E2 (s : State) : Host.Outcome State Fault Refusal := .next (accumulate (romEntry 7 2) s)

/-- PICK.c8.e0 (R174). -/
def execPickC8E0 (s : State) : Host.Outcome State Fault Refusal := .next (accumulate (romEntry 8 0) s)

/-- PICK.c8.e1 (R174). -/
def execPickC8E1 (s : State) : Host.Outcome State Fault Refusal := .next (accumulate (romEntry 8 1) s)

/-- PICK.c8.e2 (R174). -/
def execPickC8E2 (s : State) : Host.Outcome State Fault Refusal := .next (accumulate (romEntry 8 2) s)

/-- PICK.c9.e0 (R174). -/
def execPickC9E0 (s : State) : Host.Outcome State Fault Refusal := .next (accumulate (romEntry 9 0) s)

/-- PICK.c9.e1 (R174). -/
def execPickC9E1 (s : State) : Host.Outcome State Fault Refusal := .next (accumulate (romEntry 9 1) s)

/-- PICK.c9.e2 (R174). -/
def execPickC9E2 (s : State) : Host.Outcome State Fault Refusal := .next (accumulate (romEntry 9 2) s)

/-- PICK.c10.e0 (R174). -/
def execPickC10E0 (s : State) : Host.Outcome State Fault Refusal := .next (accumulate (romEntry 10 0) s)

/-- PICK.c10.e1 (R174). -/
def execPickC10E1 (s : State) : Host.Outcome State Fault Refusal := .next (accumulate (romEntry 10 1) s)

/-- PICK.c10.e2 (R174). -/
def execPickC10E2 (s : State) : Host.Outcome State Fault Refusal := .next (accumulate (romEntry 10 2) s)

/-- PICK.c11.e0 (R174). -/
def execPickC11E0 (s : State) : Host.Outcome State Fault Refusal := .next (accumulate (romEntry 11 0) s)

/-- PICK.c11.e1 (R174). -/
def execPickC11E1 (s : State) : Host.Outcome State Fault Refusal := .next (accumulate (romEntry 11 1) s)

/-- PICK.c11.e2 (R174). -/
def execPickC11E2 (s : State) : Host.Outcome State Fault Refusal := .next (accumulate (romEntry 11 2) s)

/-- PICK.c12.e0 (R174). -/
def execPickC12E0 (s : State) : Host.Outcome State Fault Refusal := .next (accumulate (romEntry 12 0) s)

/-- PICK.c12.e1 (R174). -/
def execPickC12E1 (s : State) : Host.Outcome State Fault Refusal := .next (accumulate (romEntry 12 1) s)

/-- PICK.c12.e2 (R174). -/
def execPickC12E2 (s : State) : Host.Outcome State Fault Refusal := .next (accumulate (romEntry 12 2) s)

/-- PICK.c13.e0 (R174). -/
def execPickC13E0 (s : State) : Host.Outcome State Fault Refusal := .next (accumulate (romEntry 13 0) s)

/-- PICK.c13.e1 (R174). -/
def execPickC13E1 (s : State) : Host.Outcome State Fault Refusal := .next (accumulate (romEntry 13 1) s)

/-- PICK.c13.e2 (R174). -/
def execPickC13E2 (s : State) : Host.Outcome State Fault Refusal := .next (accumulate (romEntry 13 2) s)

/-- PICK.c14.e0 (R174). -/
def execPickC14E0 (s : State) : Host.Outcome State Fault Refusal := .next (accumulate (romEntry 14 0) s)

/-- PICK.c14.e1 (R174). -/
def execPickC14E1 (s : State) : Host.Outcome State Fault Refusal := .next (accumulate (romEntry 14 1) s)

/-- PICK.c14.e2 (R174). -/
def execPickC14E2 (s : State) : Host.Outcome State Fault Refusal := .next (accumulate (romEntry 14 2) s)

/-- PICK.c15.e0 (R174). -/
def execPickC15E0 (s : State) : Host.Outcome State Fault Refusal := .next (accumulate (romEntry 15 0) s)

/-- PICK.c15.e1 (R174). -/
def execPickC15E1 (s : State) : Host.Outcome State Fault Refusal := .next (accumulate (romEntry 15 1) s)

/-- PICK.c15.e2 (R174). -/
def execPickC15E2 (s : State) : Host.Outcome State Fault Refusal := .next (accumulate (romEntry 15 2) s)

/-- PICK.c16.e0 (R174). -/
def execPickC16E0 (s : State) : Host.Outcome State Fault Refusal := .next (accumulate (romEntry 16 0) s)

/-- PICK.c16.e1 (R174). -/
def execPickC16E1 (s : State) : Host.Outcome State Fault Refusal := .next (accumulate (romEntry 16 1) s)

/-- PICK.c16.e2 (R174). -/
def execPickC16E2 (s : State) : Host.Outcome State Fault Refusal := .next (accumulate (romEntry 16 2) s)

/-- PICK.c17.e0 (R174). -/
def execPickC17E0 (s : State) : Host.Outcome State Fault Refusal := .next (accumulate (romEntry 17 0) s)

/-- PICK.c17.e1 (R174). -/
def execPickC17E1 (s : State) : Host.Outcome State Fault Refusal := .next (accumulate (romEntry 17 1) s)

/-- PICK.c17.e2 (R174). -/
def execPickC17E2 (s : State) : Host.Outcome State Fault Refusal := .next (accumulate (romEntry 17 2) s)

end Sys2Proof.Machine
end

