-- ==== Sys2Proof/Machine/Dispatch.lean ====
section
/-! DEFINITION. exec: one arm per constructor of Instr, each a call of that instruction's own meaning. -/

namespace Sys2Proof.Machine

def exec (i : Instr) (s : State) : Host.Outcome State Fault Refusal :=
  match i with
  | .nop => Sys2Proof.Machine.execNop s
  | .poll => Sys2Proof.Machine.execPoll s
  | .reinit => Sys2Proof.Machine.execReinit s
  | .rsvd => Sys2Proof.Machine.execRsvd s
  | .frameSigloss p => Sys2Proof.Machine.execFrameSigloss p s
  | .frameValid p => Sys2Proof.Machine.execFrameValid p s
  | .frameValidSl p => Sys2Proof.Machine.execFrameValidSl p s
  | .frameValidFs p => Sys2Proof.Machine.execFrameValidFs p s
  | .frameCorrupt start stop siglost failsafe p => Sys2Proof.Machine.execFrameCorrupt start stop siglost failsafe p s
  | .pick e => Sys2Proof.Machine.execPick e s
  | .pickC0E0 => Sys2Proof.Machine.execPickC0E0 s
  | .pickC0E1 => Sys2Proof.Machine.execPickC0E1 s
  | .pickC0E2 => Sys2Proof.Machine.execPickC0E2 s
  | .pickC1E0 => Sys2Proof.Machine.execPickC1E0 s
  | .pickC1E1 => Sys2Proof.Machine.execPickC1E1 s
  | .pickC1E2 => Sys2Proof.Machine.execPickC1E2 s
  | .pickC2E0 => Sys2Proof.Machine.execPickC2E0 s
  | .pickC2E1 => Sys2Proof.Machine.execPickC2E1 s
  | .pickC2E2 => Sys2Proof.Machine.execPickC2E2 s
  | .pickC3E0 => Sys2Proof.Machine.execPickC3E0 s
  | .pickC3E1 => Sys2Proof.Machine.execPickC3E1 s
  | .pickC3E2 => Sys2Proof.Machine.execPickC3E2 s
  | .pickC4E0 => Sys2Proof.Machine.execPickC4E0 s
  | .pickC4E1 => Sys2Proof.Machine.execPickC4E1 s
  | .pickC4E2 => Sys2Proof.Machine.execPickC4E2 s
  | .pickC5E0 => Sys2Proof.Machine.execPickC5E0 s
  | .pickC5E1 => Sys2Proof.Machine.execPickC5E1 s
  | .pickC5E2 => Sys2Proof.Machine.execPickC5E2 s
  | .pickC6E0 => Sys2Proof.Machine.execPickC6E0 s
  | .pickC6E1 => Sys2Proof.Machine.execPickC6E1 s
  | .pickC6E2 => Sys2Proof.Machine.execPickC6E2 s
  | .pickC7E0 => Sys2Proof.Machine.execPickC7E0 s
  | .pickC7E1 => Sys2Proof.Machine.execPickC7E1 s
  | .pickC7E2 => Sys2Proof.Machine.execPickC7E2 s
  | .pickC8E0 => Sys2Proof.Machine.execPickC8E0 s
  | .pickC8E1 => Sys2Proof.Machine.execPickC8E1 s
  | .pickC8E2 => Sys2Proof.Machine.execPickC8E2 s
  | .pickC9E0 => Sys2Proof.Machine.execPickC9E0 s
  | .pickC9E1 => Sys2Proof.Machine.execPickC9E1 s
  | .pickC9E2 => Sys2Proof.Machine.execPickC9E2 s
  | .pickC10E0 => Sys2Proof.Machine.execPickC10E0 s
  | .pickC10E1 => Sys2Proof.Machine.execPickC10E1 s
  | .pickC10E2 => Sys2Proof.Machine.execPickC10E2 s
  | .pickC11E0 => Sys2Proof.Machine.execPickC11E0 s
  | .pickC11E1 => Sys2Proof.Machine.execPickC11E1 s
  | .pickC11E2 => Sys2Proof.Machine.execPickC11E2 s
  | .pickC12E0 => Sys2Proof.Machine.execPickC12E0 s
  | .pickC12E1 => Sys2Proof.Machine.execPickC12E1 s
  | .pickC12E2 => Sys2Proof.Machine.execPickC12E2 s
  | .pickC13E0 => Sys2Proof.Machine.execPickC13E0 s
  | .pickC13E1 => Sys2Proof.Machine.execPickC13E1 s
  | .pickC13E2 => Sys2Proof.Machine.execPickC13E2 s
  | .pickC14E0 => Sys2Proof.Machine.execPickC14E0 s
  | .pickC14E1 => Sys2Proof.Machine.execPickC14E1 s
  | .pickC14E2 => Sys2Proof.Machine.execPickC14E2 s
  | .pickC15E0 => Sys2Proof.Machine.execPickC15E0 s
  | .pickC15E1 => Sys2Proof.Machine.execPickC15E1 s
  | .pickC15E2 => Sys2Proof.Machine.execPickC15E2 s
  | .pickC16E0 => Sys2Proof.Machine.execPickC16E0 s
  | .pickC16E1 => Sys2Proof.Machine.execPickC16E1 s
  | .pickC16E2 => Sys2Proof.Machine.execPickC16E2 s
  | .pickC17E0 => Sys2Proof.Machine.execPickC17E0 s
  | .pickC17E1 => Sys2Proof.Machine.execPickC17E1 s
  | .pickC17E2 => Sys2Proof.Machine.execPickC17E2 s

end Sys2Proof.Machine
end

