-- ==== Sys2Proof/Machine/Fetch.lean ====
section
/-! DEFINITION. What a step runs and what it does around it: taking an input of the environment (R81, R240), reading the
frame word from BUF (R85) or a pick word from the ROM (R60), and ending the operation. -/

namespace Sys2Proof.Machine

/-- Acceptance of a command (R81, R110): the input pins and the source stand as the environment set them. -/
def accept (r : Request) (s : State) : State :=
  { s with nowIn := r.now, src := s.src ++ r.arrivals, srcGrant := r.grant }

/-- The pulse of the step before is over (R32, R218: "not latched"). -/
def lowerReport (s : State) : State := { s with reportDue := false }

/-- What a step has found to do. -/
inductive Fetched where
  /-- No instruction: an idle cycle or a hardware reset, with the state it leaves. -/
  | quiet (s : State)
  /-- An instruction, and the state it runs in. -/
  | run (i : Instr) (s : State)
  /-- Bits that are no instruction. -/
  | bad (e : DecodeError)

/-- A decoded instruction with the state it runs in. -/
def fetchedOf (d : Except DecodeError Instr) (s : State) : Fetched :=
  match d with
  | .ok i => .run i s
  | .error e => .bad e

/-- What the phase register says is next, when no reset intervenes. -/
def fetchPhase (s : State) : Fetched :=
  match s.phase with
  | .idle =>
    match s.pending with
    | .command r :: rest => fetchedOf (decode (.cmd r.cmd)) (accept r { s with pending := rest })
    | _ => .quiet s
  | .dispatch => fetchedOf (decode (.frame (frameWord s.buf))) s
  | .extract k j => fetchedOf (decode (.romSlot k j (romWord k j))) s
  | .pickWord w => fetchedOf (decode (.pickWord w)) s

/-- Fetch. A hardware reset is taken first, at any point (R240; log 12). -/
def fetch (s : State) : Fetched :=
  match s.pending with
  | .rst popped :: rest => .quiet (hardReset popped { s with pending := rest })
  | _ => fetchPhase (lowerReport s)

/-- What a step does after the instruction: a command is complete by itself; after a frame the POLL it belongs to ends
(R136, R137); after a pick word the sequencer is idle again (log 6). -/
def close (ph : Phase) (s : State) : State :=
  match ph with
  | .idle => s
  | .dispatch => { updateLock (releaseBuffer s) with phase := .idle }
  | .extract _ _ | .pickWord _ => { s with phase := .idle }

/-- `close` on an outcome. -/
def closeOutcome (ph : Phase) : Host.Outcome State Fault Refusal → Host.Outcome State Fault Refusal
  | .next s => .next (close ph s)
  | .fault r => .fault r
  | .refused r => .refused r

/-- A pick word goes to the ROM slot that alone holds it, else it is evaluated by itself (log 10). -/
def pickPhase (w : PickWord) : Phase :=
  match locatePick w with
  | .romSlot k j _ => .extract k j
  | _ => .pickWord w

/-- The command offered when a command word is placed by hand: the pins as they are, no new bytes, all the source holds. -/
def requestOf (s : State) (w : Nat) : Request where
  cmd := BitVec.ofNat Config.hw.cmdW w
  now := s.nowIn
  arrivals := []
  grant := s.src.length

end Sys2Proof.Machine
end

