-- ==== Sys2Proof/Machine/Step.lean ====
section
/-! DEFINITION. One step of the machine, and how an instruction is placed where the next step fetches it. -/

namespace Sys2Proof.Machine

/-- One step: what `fetch` finds, run by `exec`, ended by `close` (R10, R110: one accepted command is one step). -/
def step (s : State) : Host.Outcome State Fault Refusal :=
  match fetch s with
  | .quiet s' => .next s'
  | .run i s' => closeOutcome s.phase (exec i s')
  | .bad e => .refused (.reservedEncoding e)

/-- The state with a row's bits where the next step fetches its instruction: a command word on the command port of an idle
block, a frame word in a full BUF at DISPATCH, a pick word at EXTRACT (log 6). -/
def State.withFetchWord (s : State) (nbits w : Nat) : State :=
  match formatOfBits nbits with
  | some .cmd => { s with phase := .idle, pending := .command (requestOf s w) :: s.pending }
  | some .frame =>
    { s with phase := .dispatch, pending := [], acc := 25, buf := bufferOf (BitVec.ofNat 200 w) }
  | some .pick => { s with phase := pickPhase (BitVec.ofNat Config.hw.pickW w), pending := [] }
  | none => s

end Sys2Proof.Machine
end

