-- ==== Sys2Proof/Machine/Trace.lean ====
section
/-! DEFINITION. The trace notation of 30_encoding.md (R93), its pseudo-instructions (R94), and the frame encoder FRAME25 of
95_test_vectors.md section 2. A trace is what the environment offers; it is no part of the block. -/

namespace Sys2Proof.Machine

/-- A line of a trace (Table R93). -/
inductive TraceLine where
  /-- `NOP`. -/
  | nop
  /-- `POLL t=<t> rx=[<rx>]`: the source answers this POLL's SrcRead with `rx`. -/
  | poll (t : Time) (rx : List Byte)
  /-- `REINIT`. -/
  | reinit
  /-- `RESET`: the `rst` pin, not a command. -/
  | reset
  deriving DecidableEq, Repr

/-- The input a line stands for (Table R93). NOP and REINIT ignore `now` (R82). -/
def TraceLine.input : TraceLine → Input
  | .nop => .command { cmd := 0b00, now := 0, arrivals := [], grant := 0 }
  | .poll t rx => .command { cmd := 0b01, now := t, arrivals := rx, grant := rx.length }
  | .reinit => .command { cmd := 0b10, now := 0, arrivals := [], grant := 0 }
  | .reset => .rst 0

/-- `IDLE t=<t>` (R94). -/
def TraceLine.idle (t : Time) : TraceLine := .poll t []

/-- `FEED t0=<t0> dt=<dt> bytes=[...]`: one byte per POLL (R94). -/
def feed (t0 dt : Time) : List Byte → List TraceLine
  | [] => []
  | b :: bs => .poll t0 [b] :: feed (t0 + dt) dt bs

/-- `BURST t=<t> offer=[...]` with `acc` bytes in the buffer after GAPCHK: the block takes the first `25 - acc` (R94). -/
def burst (acc : Nat) (t : Time) (offer : List Byte) : TraceLine := .poll t (offer.take (Config.frameLen - acc))

/-- The state with the lines of a trace offered after what is already pending. -/
def State.offer (s : State) (ls : List TraceLine) : State := { s with pending := s.pending ++ ls.map TraceLine.input }

/-- The number whose 11-bit digits, least significant first, are the raw channels. -/
def packRaw : List (BitVec 11) → Nat
  | [] => 0
  | r :: rs => r.toNat + 2 ^ 11 * packRaw rs

/-- `FRAME25(raw, flags, start, end)`: the 25 bytes of
`F = start + sum raw[k] * 2^(8+11k) + flags * 2^184 + end * 2^192` (95_test_vectors section 2). -/
def frame25 (raw : Vector (BitVec 11) 16) (flags start stop : Byte) : List Byte :=
  leBytes Config.frameLen
    (start.toNat + packRaw raw.toList * 2 ^ 8 + flags.toNat * 2 ^ 184 + stop.toNat * 2 ^ 192)

end Sys2Proof.Machine
end

