-- ==== Sys2Proof/Safety.lean ====
section
/-! DEFINITION. What counts as a good state and a good run: the invariants of R37 and the canonical form of BUF. -/

namespace Sys2Proof.Machine

/-- The invariants of R37 that a state can show, with the canonical form of BUF. Between operations the phase is `idle`;
inside a POLL, at DISPATCH, `acc` is 25 (R22, R136). -/
structure Inv (s : State) : Prop where
  /-- BUF is in its canonical form, addresses 0 to 24 (R60, R66). -/
  bufCanonical : Memory.wf s.buf
  /-- At DISPATCH the buffer is full (R136). -/
  fullAtDispatch : s.phase = .dispatch → s.acc = 25
  /-- R37 item 1. -/
  accBelowFull : s.phase ≠ .dispatch → s.acc.toNat ≤ 24
  /-- R37 item 2: every byte below `acc` has been written. -/
  prefixWritten : ∀ i : Nat, i < s.acc.toNat → (Memory.find s.buf i).isSome = true
  /-- R37 item 4, matrix channels. -/
  matrixRange : ∀ k : Fin 18, k.val < 16 → s.ch[k] = 0 ∨ (998 ≤ s.ch[k].toNat ∧ s.ch[k].toNat ≤ 2021)
  /-- R37 item 4, digital channels. -/
  digitalRange : ∀ k : Fin 18, 16 ≤ k.val → s.ch[k] = 0 ∨ s.ch[k] = 998 ∨ s.ch[k] = 1998
  /-- R37 item 5. -/
  countRange : s.chCount = 0 ∨ s.chCount = 18
  /-- R37 item 6. -/
  blankBeforeValid : s.goodValid = false →
    s.locked = false ∧ s.chCount = 0 ∧ s.frameTs = 0 ∧ s.lastGoodTime = 0 ∧ ∀ k : Fin 18, s.ch[k] = 0
  /-- R37 item 7. -/
  stampShown : s.goodValid = true → s.frameTs = s.lastGoodTime
  /-- R37 item 8. -/
  lossShown : s.signalLost = true → s.chCount = 0

/-- A step that goes on: it answers a next state, ready for the next command (R210). -/
def Completes (s : State) : Prop := ∃ t : State, step s = .next t ∧ t.ports.cmdReady = true

end Sys2Proof.Machine
end

