-- ==== Sys2Proof/Certificates/Slice0/Obligations.lean ====
section
/-! DEFINITION. The statements of this row, one `def Obligations.<Name> : Prop` each, with the formulas of the rules they
are written in. -/

namespace Sys2Proof.Rules

open Sys2Proof.Machine

/-- R131: more than 3000 ticks since the last byte-reading POLL, with a partial frame in the buffer. `now` is the value of
the pins, sampled once (R130). -/
abbrev gateFires (s : State) : Prop := 3000 < (s.nowIn - s.lastByteTime).toNat ∧ 0 < s.acc.toNat

/-- `acc` when the POLL reads: 0 if the gate fired (R131). -/
def accAtRead (s : State) : Nat := if gateFires s then 0 else s.acc.toNat

/-- What the gate adds to `dropcnt` (R131). -/
def gateDrop (s : State) : DropCount := if gateFires s then 1 else 0

/-- `rx`: the oldest bytes of the source, as many as it gives, at most `25 - acc` (R67, R132). -/
def bytesRead (s : State) : List Byte := s.src.take (min s.srcGrant (25 - accAtRead s))

/-- `buf` after `buf[acc + i] <- rx[i]` (R132). -/
def bufAfterRead (s : State) : Memory := Memory.writeBytes s.buf (accAtRead s) (bytesRead s)

/-- LOCKEVAL (R137) of a `good_valid`, a `last_good_time` and a `now`. -/
def lockAt (goodValid : Bool) (lastGoodTime now : Time) : Bool :=
  goodValid && decide ((now - lastGoodTime).toNat ≤ 200000)

/-- What every POLL that reads at least one byte writes, whatever follows, with `acc` the count it ends with
(R130, R131, R132, R134). -/
def afterRead (s : State) (acc : ByteCount) : State :=
  { s with
    nowLatch := s.nowIn
    reportDue := false
    dropcnt := s.dropcnt + gateDrop s
    buf := bufAfterRead s
    lastByteTime := s.nowIn
    acc := acc
    src := s.src.drop (bytesRead s).length }

/-- The channel registers a VALID frame writes (R180), from the raw values and the two digital bits. -/
def validChannels (raw : Nat → BitVec 11) (d17 d18 : Bool) : Vector ChannelValue 18 :=
  Vector.ofFn fun k =>
    if k.val < 16 then BitVec.ofNat 16 ((raw k.val).toNat / 2 + 998)
    else if k.val = 16 then (if d17 then 1998 else 998)
    else (if d18 then 1998 else 998)

/-- The state a VALID frame leaves, with `t` the time of the frame (R180). -/
def validState (s : State) (t : Time) (raw : Nat → BitVec 11) (d17 d18 : Bool) : State :=
  { s with
    lastGoodTime := t
    goodValid := true
    ch := validChannels raw d17 d18
    chCount := 18
    frameTs := t
    signalLost := false
    reportDue := true }

/-- `value` with the piece of one pick entry ORed in: `((buf[1 + off] >> rsh) & mask) << lsh`, nothing for mask 0 (R172,
R173). -/
def withPiece (s : State) (off rsh : Nat) (mask : Byte) (lsh : Nat) : State :=
  { s with
    value := s.value |||
      (if mask = 0 then 0 else (((Memory.read s.buf (1 + off) >>> rsh) &&& mask).setWidth 11) <<< lsh) }

/-- The reserved pick words of R90 and 93 U2. -/
abbrev reservedPick (e : PickEntry) : Prop :=
  e.off.toNat > 22 ∨ e.lsh.toNat > 10 ∨ e.mask.toNat * 2 ^ e.lsh.toNat > 0x7FF

/-- The mask of the FRAME rows of Table R87. -/
def classMask : BitVec 200 := 0xFF0C00000000000000000000000000000000000000000000FF

/-- A step that takes a hardware reset. -/
abbrev takesReset (s : State) : Prop := ∃ n rest, s.pending = .rst n :: rest

/-- A step that runs a command of the given word. -/
abbrev takesCommand (s : State) (w : CmdWord) : Prop :=
  s.phase = .idle ∧ ∃ r rest, s.pending = .command r :: rest ∧ r.cmd = w

end Sys2Proof.Rules

open Sys2Proof Sys2Proof.Machine Sys2Proof.Rules

/-! ### Encodings (30_encoding.md) -/

/-- Decoding the encoding of a well-formed instruction gives it back, every operand at every value (R82, R85, R87, R89, R92). -/
def Obligations.DecodeAfterEncode : Prop :=
  ∀ i : Instr, i.wf = true → decode (encode i) = .ok i

/-- What decodes is well formed, and encodes to the bits it was read from: each word has one meaning (R82, R87, R89). -/
def Obligations.EncodeAfterDecode : Prop :=
  ∀ (e : Encoded) (i : Instr), decode e = .ok i → i.wf = true ∧ encode i = e

/-- A few words written out from the spec: the command words of Table R82, frames Z and Gbad of 95_test_vectors section 2,
the SIGLOSS match of Table R87 (30_encoding section 3), words of Table R174. -/
def Obligations.WrittenWordsDecode : Prop :=
  decode (.cmd 0b00) = .ok .nop ∧ decode (.cmd 0b01) = .ok .poll ∧ decode (.cmd 0b10) = .ok .reinit ∧
  decode (.cmd 0b11) = .ok .rsvd ∧
  decode (.frame 0x0F) = .ok (.frameValid ⟨0, false, false, 0⟩) ∧
  decode (.frame (0x0F ||| 0x0C <<< 184)) = .ok (.frameSigloss ⟨0, false, false, 0⟩) ∧
  decode (.frame (0x0F ||| 0x04 <<< 16 ||| 0x01 <<< 192)) =
    .ok (.frameCorrupt 0x0F 0x01 false false ⟨0x400, false, false, 0⟩) ∧
  decode (.romSlot 2 1 0b00011000111111110010) = .ok .pickC2E1 ∧
  decode (.romSlot 17 2 0) = .ok .pickC17E2 ∧
  decode (.pickWord 0b00010110000000110000) = .ok (.pick ⟨2, 6, 0x03, 0⟩)

/-- Table R87: the class of a frame word is that of the first row whose mask and match it meets; CORRUPT catches the rest. -/
def Obligations.FrameClassesByMask : Prop :=
  ∀ F : BitVec 200,
    decode (.frame F) = .ok (
      if F &&& classMask = 0x000C000000000000000000000000000000000000000000000F then .frameSigloss (framePayload F)
      else if F &&& classMask = 0x0000000000000000000000000000000000000000000000000F then .frameValid (framePayload F)
      else if F &&& classMask = 0x0004000000000000000000000000000000000000000000000F then .frameValidSl (framePayload F)
      else if F &&& classMask = 0x0008000000000000000000000000000000000000000000000F then .frameValidFs (framePayload F)
      else .frameCorrupt (F.extractLsb' 0 8) (F.extractLsb' 192 8) (F.getLsbD 186) (F.getLsbD 187) (framePayload F))

/-- R85 and Table R86: byte i of a buffer is F[8i+7:8i], raw channel k is F[18+11k:8+11k], the digital bits are F[184] and
F[185], and they are bits 0 and 1 of byte 23. -/
def Obligations.FrameWordLayout : Prop :=
  ∀ m : Memory,
    (∀ i : Nat, i < 25 → (frameWord m).extractLsb' (8 * i) 8 = Memory.read m i) ∧
    (∀ k : Nat, k < 16 → (framePayload (frameWord m)).raw k = (frameWord m).extractLsb' (8 + 11 * k) 11) ∧
    (framePayload (frameWord m)).d17 = (Memory.read m 23).getLsbD 0 ∧
    (framePayload (frameWord m)).d18 = (Memory.read m 23).getLsbD 1 ∧
    (framePayload (frameWord m)).unused = (Memory.read m 23).extractLsb' 4 4

/-- R175 items 1 and 2, with R174 for rows 16 and 17: every ROM entry is the one the layout generates, the pieces of a row
are disjoint and cover the 11 bits. -/
def Obligations.RomIsGeneratedByLayout : Prop :=
  (∀ k : Fin 18, k.val < 16 →
    let o := 11 * k.val / 8
    let b := 11 * k.val % 8
    let n0 := 8 - b
    let n1 := min 8 (11 - n0)
    let n2 := 11 - n0 - n1
    romEntry k 0 = ⟨BitVec.ofNat 5 o, BitVec.ofNat 3 b, BitVec.ofNat 8 (2 ^ n0 - 1), 0⟩ ∧
    romEntry k 1 = ⟨BitVec.ofNat 5 (o + 1), 0, BitVec.ofNat 8 (2 ^ n1 - 1), BitVec.ofNat 4 n0⟩ ∧
    romEntry k 2 =
      (if n2 > 0 then ⟨BitVec.ofNat 5 (o + 2), 0, BitVec.ofNat 8 (2 ^ n2 - 1), BitVec.ofNat 4 (n0 + n1)⟩ else ⟨0, 0, 0, 0⟩) ∧
    (let p := fun j : Fin 3 => (romEntry k j).mask.toNat <<< (romEntry k j).lsh.toNat
     p 0 &&& p 1 = 0 ∧ p 0 &&& p 2 = 0 ∧ p 1 &&& p 2 = 0 ∧ (p 0 ||| p 1 ||| p 2) = 0x7FF)) ∧
  (∀ (k : Fin 18) (j : Fin 3), 16 ≤ k.val → romEntry k j = ⟨0, 0, 0, 0⟩)

/-- R175 item 3, an equivalence of two designs: for every content of the buffer, the raw value the pick table extracts is
the contiguous field of the frame word, and rows 16 and 17 extract 0. -/
def Obligations.PickTableEqualsChannelField : Prop :=
  ∀ (b : Memory) (k : Fin 18),
    (k.val < 16 → rawChannel b k = (frameWord b).extractLsb' (8 + 11 * k.val) 11) ∧
    (16 ≤ k.val → rawChannel b k = 0)

/-- R90 with the bounds of 93 U2: a reserved pick word is refused, by the decoder, by the PICK row and by a step; every
other word has a meaning. The bound 0x7FF is U2's; that a reserved word is refused with mask 0 too is the model's inference
(log 9); the phase pickWord, at which a step meets such a word, is the model's way in (log 6). -/
def Obligations.ReservedPickWordsRefused : Prop :=
  ∀ (w : PickWord) (s : State),
    (reservedPick (unpackPick w) →
      decode (.pickWord w) = .error (.pickReserved w) ∧
      exec (.pick (unpackPick w)) s = .refused (.reservedEncoding (.pickReserved w)) ∧
      (s.phase = .pickWord w → ¬ takesReset s → step s = .refused (.reservedEncoding (.pickReserved w)))) ∧
    (¬ reservedPick (unpackPick w) → decode (.pickWord w) = .ok (.pick (unpackPick w)))

/-! ### Results of the instructions -/

/-- R111, R114: NOP and the reserved command complete in every state and change nothing, in or around the block. -/
def Obligations.NopAndReservedChangeNothing : Prop :=
  ∀ s : State, exec .nop s = .next s ∧ exec .rsvd s = .next s

/-- R113: REINIT completes in every state, clears every item of Table R20 but `buf`, and changes nothing else. -/
def Obligations.ReinitClearsAllButBuffer : Prop :=
  ∀ s : State, exec .reinit s = .next { s with
    acc := 0, lastByteTime := 0, lastGoodTime := 0, goodValid := false, dropcnt := 0, ch := Vector.ofFn fun _ => 0,
    chCount := 0, frameTs := 0, signalLost := false, locked := false }

/-- The reset values of R240, in the reset state and in the state after a step that takes `rst`, at whatever point it comes;
`buf` is not written. What a reset leaves of the hidden `now` and `value`, of the pins and of the source's grant is the
model's choice, no rule of the spec (log 12; in the reset state log 2). -/
def Obligations.HardwareReset : Prop :=
  (let z := State.reset
   z.acc = 0 ∧ z.lastByteTime = 0 ∧ z.lastGoodTime = 0 ∧ z.goodValid = false ∧ z.dropcnt = 0 ∧
   (∀ k : Fin 18, z.ch[k] = 0) ∧ z.chCount = 0 ∧ z.frameTs = 0 ∧ z.signalLost = false ∧ z.locked = false ∧
   z.reportDue = false ∧ z.ports.cmdReady = true) ∧
  ∀ (s : State) (popped : Nat) (rest : List Input), s.pending = .rst popped :: rest →
    step s = .next { s with
      pending := rest, acc := 0, lastByteTime := 0, lastGoodTime := 0, goodValid := false, dropcnt := 0,
      ch := Vector.ofFn fun _ => 0, chCount := 0, frameTs := 0, signalLost := false, locked := false,
      reportDue := false, phase := .idle, src := s.src.drop popped }

/-- The generic PICK row (R172) completes for every word that is not reserved: the piece of its entry is ORed into the
temporary `value` (that the row ends in `value` is the model's choice, log 13); nothing else changes. -/
def Obligations.PickWordPiece : Prop :=
  ∀ (e : PickEntry) (s : State), ¬ reservedPick e →
    exec (.pick e) s = .next (withPiece s e.off.toNat e.rsh.toNat e.mask e.lsh.toNat)

/-- The 54 ROM words (Table R174, R172) complete in every state: each ORs the piece of its own entry into the temporary
`value` (log 13); nothing else changes. -/
def Obligations.RomWordPieces : Prop :=
  ∀ s : State,
    exec .pickC0E0 s = .next (withPiece s 0 0 0xFF 0) ∧
    exec .pickC0E1 s = .next (withPiece s 1 0 0x07 8) ∧
    exec .pickC0E2 s = .next (withPiece s 0 0 0x00 0) ∧
    exec .pickC1E0 s = .next (withPiece s 1 3 0x1F 0) ∧
    exec .pickC1E1 s = .next (withPiece s 2 0 0x3F 5) ∧
    exec .pickC1E2 s = .next (withPiece s 0 0 0x00 0) ∧
    exec .pickC2E0 s = .next (withPiece s 2 6 0x03 0) ∧
    exec .pickC2E1 s = .next (withPiece s 3 0 0xFF 2) ∧
    exec .pickC2E2 s = .next (withPiece s 4 0 0x01 10) ∧
    exec .pickC3E0 s = .next (withPiece s 4 1 0x7F 0) ∧
    exec .pickC3E1 s = .next (withPiece s 5 0 0x0F 7) ∧
    exec .pickC3E2 s = .next (withPiece s 0 0 0x00 0) ∧
    exec .pickC4E0 s = .next (withPiece s 5 4 0x0F 0) ∧
    exec .pickC4E1 s = .next (withPiece s 6 0 0x7F 4) ∧
    exec .pickC4E2 s = .next (withPiece s 0 0 0x00 0) ∧
    exec .pickC5E0 s = .next (withPiece s 6 7 0x01 0) ∧
    exec .pickC5E1 s = .next (withPiece s 7 0 0xFF 1) ∧
    exec .pickC5E2 s = .next (withPiece s 8 0 0x03 9) ∧
    exec .pickC6E0 s = .next (withPiece s 8 2 0x3F 0) ∧
    exec .pickC6E1 s = .next (withPiece s 9 0 0x1F 6) ∧
    exec .pickC6E2 s = .next (withPiece s 0 0 0x00 0) ∧
    exec .pickC7E0 s = .next (withPiece s 9 5 0x07 0) ∧
    exec .pickC7E1 s = .next (withPiece s 10 0 0xFF 3) ∧
    exec .pickC7E2 s = .next (withPiece s 0 0 0x00 0) ∧
    exec .pickC8E0 s = .next (withPiece s 11 0 0xFF 0) ∧
    exec .pickC8E1 s = .next (withPiece s 12 0 0x07 8) ∧
    exec .pickC8E2 s = .next (withPiece s 0 0 0x00 0) ∧
    exec .pickC9E0 s = .next (withPiece s 12 3 0x1F 0) ∧
    exec .pickC9E1 s = .next (withPiece s 13 0 0x3F 5) ∧
    exec .pickC9E2 s = .next (withPiece s 0 0 0x00 0) ∧
    exec .pickC10E0 s = .next (withPiece s 13 6 0x03 0) ∧
    exec .pickC10E1 s = .next (withPiece s 14 0 0xFF 2) ∧
    exec .pickC10E2 s = .next (withPiece s 15 0 0x01 10) ∧
    exec .pickC11E0 s = .next (withPiece s 15 1 0x7F 0) ∧
    exec .pickC11E1 s = .next (withPiece s 16 0 0x0F 7) ∧
    exec .pickC11E2 s = .next (withPiece s 0 0 0x00 0) ∧
    exec .pickC12E0 s = .next (withPiece s 16 4 0x0F 0) ∧
    exec .pickC12E1 s = .next (withPiece s 17 0 0x7F 4) ∧
    exec .pickC12E2 s = .next (withPiece s 0 0 0x00 0) ∧
    exec .pickC13E0 s = .next (withPiece s 17 7 0x01 0) ∧
    exec .pickC13E1 s = .next (withPiece s 18 0 0xFF 1) ∧
    exec .pickC13E2 s = .next (withPiece s 19 0 0x03 9) ∧
    exec .pickC14E0 s = .next (withPiece s 19 2 0x3F 0) ∧
    exec .pickC14E1 s = .next (withPiece s 20 0 0x1F 6) ∧
    exec .pickC14E2 s = .next (withPiece s 0 0 0x00 0) ∧
    exec .pickC15E0 s = .next (withPiece s 20 5 0x07 0) ∧
    exec .pickC15E1 s = .next (withPiece s 21 0 0xFF 3) ∧
    exec .pickC15E2 s = .next (withPiece s 0 0 0x00 0) ∧
    exec .pickC16E0 s = .next (withPiece s 0 0 0x00 0) ∧
    exec .pickC16E1 s = .next (withPiece s 0 0 0x00 0) ∧
    exec .pickC16E2 s = .next (withPiece s 0 0 0x00 0) ∧
    exec .pickC17E0 s = .next (withPiece s 0 0 0x00 0) ∧
    exec .pickC17E1 s = .next (withPiece s 0 0 0x00 0) ∧
    exec .pickC17E2 s = .next (withPiece s 0 0 0x00 0)

/-- R173: the three words of a row, run from `value = 0`, leave the channel's raw value in `value` and change nothing else:
for rows 0 to 15 the contiguous 11-bit field of the frame word in the buffer (R85), for rows 16 and 17 zero. -/
def Obligations.RowOfPicksGivesRawValue : Prop :=
  ∀ (k : Fin 18) (s : State), s.value = 0 → ∃ t u : State,
    exec (romInstr k 0) s = .next t ∧ exec (romInstr k 1) t = .next u ∧
    exec (romInstr k 2) u = .next { s with
      value := if k.val < 16 then (frameWord s.buf).extractLsb' (8 + 11 * k.val) 11 else 0 }

/-- A CORRUPT frame (R152) adds exactly one drop and changes nothing else, whatever its bits. For the operands that are no
CORRUPT frame by R87 (both markers good, which no decoding gives) the drop is the model's choice (log 25). -/
def Obligations.CorruptFrameCountsOneDrop : Prop :=
  ∀ (start stop : Byte) (siglost failsafe : Bool) (p : FramePayload) (s : State),
    exec (.frameCorrupt start stop siglost failsafe p) s = .next { s with dropcnt := BitVec.ofNat 32 (s.dropcnt.toNat + 1) }

/-- R154: a SIGLOSS frame sets the channel count to 0 and `signal_lost` to 1 and changes nothing else. -/
def Obligations.SiglossFrameReportsNoChannels : Prop :=
  ∀ (p : FramePayload) (s : State), exec (.frameSigloss p) s = .next { s with chCount := 0, signalLost := true }

/-- R180, R155: a VALID frame, with neither or only one of the failsafe bits, writes the whole record from its own bits
alone: each matrix channel is raw / 2 + 998, each digital channel 998 or 1998; the time is the POLL's `now`. The drop
counter, the lock register, the buffer and the synchronizer's registers are unchanged. -/
def Obligations.ValidFrameWritesRecord : Prop :=
  ∀ (p : FramePayload) (s : State),
    exec (.frameValid p) s = .next (validState s s.nowLatch p.raw p.d17 p.d18) ∧
    exec (.frameValidSl p) s = .next (validState s s.nowLatch p.raw p.d17 p.d18) ∧
    exec (.frameValidFs p) s = .next (validState s s.nowLatch p.raw p.d17 p.d18)

/-- R176: every channel of the loop, whatever MAX_CH, gets RAW / 2 + 998, the division truncating, in 998 to 2021; the lowest
raw bit is lost. -/
def Obligations.NormalizationIsHalfPlus998 : Prop :=
  (∀ (p : Params) (b : Memory) (ch : Vector ChannelValue 18) (k : Fin 18), k.val < min 18 p.maxCh →
    (extractChannels p b ch)[k].toNat = (rawChannel b k).toNat / 2 + 998 ∧
    998 ≤ (extractChannels p b ch)[k].toNat ∧ (extractChannels p b ch)[k].toNat ≤ 2021) ∧
  (∀ m : Nat, m < 1024 → normChannel (BitVec.ofNat 11 (2 * m)) = normChannel (BitVec.ofNat 11 (2 * m + 1)))

/-- R171, R177, R178 for every MAX_CH from 1 to 18: channels below min(18, MAX_CH) come from the table, those above are not
written, channels 16 and 17 come from bits 0 and 1 of the flags byte only if MAX_CH is 18, MAX_CH 17 leaves 998 in channel
16, and the count is min(18, MAX_CH). -/
def Obligations.ChannelLoopBounds : Prop :=
  ∀ (p : Params) (b : Memory) (s : State), 1 ≤ p.maxCh → p.maxCh ≤ 18 →
    (∀ k : Fin 18, (writeChannels p b s).ch[k] =
      if p.maxCh = 18 ∧ k.val = 16 then (if (Memory.read b 23).getLsbD 0 then 1998 else 998)
      else if p.maxCh = 18 ∧ k.val = 17 then (if (Memory.read b 23).getLsbD 1 then 1998 else 998)
      else if k.val < min 18 p.maxCh then BitVec.ofNat 16 ((rawChannel b k).toNat / 2 + 998)
      else s.ch[k]) ∧
    (p.maxCh = 17 → (writeChannels p b s).ch[16] = 998) ∧
    (emit p s).chCount = BitVec.ofNat 5 (min 18 p.maxCh)

/-! ### POLL (Listing R112) -/

/-- R133, R131: a POLL that reads nothing writes `locked` and what the gate wrote, and nothing else of the block: in
particular not `last_byte_time`. It notes READ_EMPTY. -/
def Obligations.PollReadingNothing : Prop :=
  ∀ s : State, bytesRead s = [] →
    .readEmpty ∈ pollConditions s ∧
    exec .poll s = .next { s with
      nowLatch := s.nowIn
      reportDue := false
      acc := if gateFires s then 0 else s.acc
      dropcnt := s.dropcnt + gateDrop s
      locked := lockAt s.goodValid s.lastGoodTime s.nowIn }

/-- R132, R134, R135: a POLL that reads bytes and does not fill the frame stores them from `acc` on, takes the time, counts
them, re-evaluates `locked`, and writes nothing of the record. -/
def Obligations.PollAccumulating : Prop :=
  ∀ s : State, bytesRead s ≠ [] → accAtRead s + (bytesRead s).length < 25 →
    exec .poll s = .next { afterRead s (BitVec.ofNat 5 (accAtRead s + (bytesRead s).length)) with
      locked := lockAt s.goodValid s.lastGoodTime s.nowIn }

/-- R156, R136: a POLL that completes a frame classifies it, markers first, then both failsafe bits, and writes what its
class writes; `acc` is 0 for every class; a VALID frame's channels are the fields of the frame word in the buffer. -/
def Obligations.PollCompletingFrame : Prop :=
  ∀ s : State, bytesRead s ≠ [] → accAtRead s + (bytesRead s).length = 25 →
    let b := bufAfterRead s
    let r := afterRead s 0
    let lock := lockAt s.goodValid s.lastGoodTime s.nowIn
    exec .poll s = .next (
      if Memory.read b 0 ≠ 0x0F ∨ Memory.read b 24 ≠ 0x00 then { r with dropcnt := r.dropcnt + 1, locked := lock }
      else if (Memory.read b 23).getLsbD 2 = true ∧ (Memory.read b 23).getLsbD 3 = true then
        { r with chCount := 0, signalLost := true, locked := lock }
      else
        { validState r s.nowIn (fun k => (frameWord b).extractLsb' (8 + 11 * k) 11)
            ((Memory.read b 23).getLsbD 0) ((Memory.read b 23).getLsbD 1) with locked := true })

/-- POLL's in-place decode is the FRAME row of the word in its buffer: a POLL that completes a frame is INTAKE, then exec of
the decoded frame, then the release of the buffer and LOCKEVAL (R136, R150, R87). -/
def Obligations.PollRunsTheFrameRow : Prop :=
  ∀ s : State, bytesRead s ≠ [] → accAtRead s + (bytesRead s).length = 25 →
    ∃ (i : Instr) (u : State),
      decode (.frame (frameWord (bufAfterRead s))) = .ok i ∧ exec i (afterRead s 25) = .next u ∧
      exec .poll s = .next { u with acc := 0, locked := lockAt u.goodValid u.lastGoodTime s.nowIn }

/-- Every byte of BUF: after a POLL the bytes read stand at `acc` and up, oldest first, and every other address reads as
before (R132, R63, R72). -/
def Obligations.PollWritesOnlyTheBytesRead : Prop :=
  ∀ s : State, ∃ t : State, exec .poll s = .next t ∧
    (∀ a : Nat, a < accAtRead s ∨ accAtRead s + (bytesRead s).length ≤ a →
      Memory.find t.buf a = Memory.find s.buf a ∧ Memory.read t.buf a = Memory.read s.buf a) ∧
    (∀ (j : Nat) (h : j < (bytesRead s).length), Memory.read t.buf (accAtRead s + j) = (bytesRead s)[j])

/-- R67: the bytes a POLL takes are the oldest of the source, never more than `25 - acc`, and exactly those leave it; they
come after no other change of the source. -/
def Obligations.PollTakesTheOldestBytes : Prop :=
  ∀ s : State, ∃ t : State, exec .poll s = .next t ∧
    s.src = bytesRead s ++ t.src ∧ (bytesRead s).length ≤ 25 - accAtRead s ∧ (bytesRead s).length ≤ s.srcGrant ∧
    pollBytes s = bytesRead s

/-- R131: the gate fires strictly above 3000 ticks and with a partial frame only; it counts one drop, sets `acc` to 0 and
writes nothing else; it comes before the read, so a POLL whose gate fires is the POLL of the state with the partial frame
gone and one more drop, and notes FRAME_TIMEOUT. -/
def Obligations.ExpiredGapDiscardsPrefix : Prop :=
  ∀ s : State,
    gapCheck s = (if 3000 < (s.nowLatch - s.lastByteTime).toNat ∧ 0 < s.acc.toNat
      then { s with dropcnt := s.dropcnt + 1, acc := 0 } else s) ∧
    (gateFires s →
      .frameTimeout ∈ pollConditions s ∧ exec .poll s = exec .poll { s with acc := 0, dropcnt := s.dropcnt + 1 })

/-- R137: every POLL ends with `locked` true iff a VALID frame has been seen and is at most 200000 ticks old, at this
POLL's `now`; before the first VALID frame it is false, and after a VALID frame it is true. -/
def Obligations.EveryPollEvaluatesLock : Prop :=
  ∀ s : State, ∃ t : State, exec .poll s = .next t ∧
    t.locked = (t.goodValid && decide ((s.nowIn - t.lastGoodTime).toNat ≤ 200000)) ∧
    (t.goodValid = false → t.locked = false) ∧ (t.reportDue = true → t.locked = true)

/-- R115: the outcome label of a POLL; `report_due` pulses exactly when it is VALID, and `dropcnt` advances by
`timeout_drop` plus one for CORRUPT. -/
def Obligations.OutcomeShowsInPulseAndCounter : Prop :=
  ∀ s : State,
    (timeoutDrop s = true ↔ gateFires s) ∧
    pollOutcome s =
      (if bytesRead s = [] then .idle
      else if accAtRead s + (bytesRead s).length < 25 then .incomplete
      else if Memory.read (bufAfterRead s) 0 ≠ 0x0F ∨ Memory.read (bufAfterRead s) 24 ≠ 0x00 then .corrupt
      else if (Memory.read (bufAfterRead s) 23).getLsbD 2 = true ∧ (Memory.read (bufAfterRead s) 23).getLsbD 3 = true
        then .sigloss
      else .valid) ∧
    ∃ t : State, exec .poll s = .next t ∧
      (t.reportDue = true ↔ pollOutcome s = .valid) ∧
      t.dropcnt = s.dropcnt + (if timeoutDrop s then 1 else 0) + (if pollOutcome s = .corrupt then 1 else 0)

/-- R216, R211: which conditions a POLL notes, each by its cause in Table R211, and their order: FRAME_TIMEOUT, READ_EMPTY,
MALFORMED_FRAME, SIGNAL_LOSS, each at most once; a bad marker takes precedence over the failsafe bits. -/
def Obligations.ConditionsOfAPoll : Prop :=
  ∀ s : State,
    let b := bufAfterRead s
    let full := bytesRead s ≠ [] ∧ accAtRead s + (bytesRead s).length = 25
    let bad := Memory.read b 0 ≠ 0x0F ∨ Memory.read b 24 ≠ 0x00
    (.frameTimeout ∈ pollConditions s ↔ gateFires s) ∧
    (.readEmpty ∈ pollConditions s ↔ bytesRead s = []) ∧
    (.malformedFrame ∈ pollConditions s ↔ full ∧ bad) ∧
    (.signalLoss ∈ pollConditions s ↔
      full ∧ ¬ bad ∧ (Memory.read b 23).getLsbD 2 = true ∧ (Memory.read b 23).getLsbD 3 = true) ∧
    (pollConditions s).Sublist [.frameTimeout, .readEmpty, .malformedFrame, .signalLoss]

/-- The split of a frame over two POLLs changes only the times (95 V46): from an empty buffer, a frame read in two parts
within the gap ends in the very state of the frame read at once by the second POLL. -/
def Obligations.SplitOfFrameIsInvisible : Prop :=
  ∀ (s : State) (xs ys : List Byte) (t2 : Time),
    s.acc = 0 → xs ≠ [] → ys ≠ [] → (xs ++ ys).length = 25 → s.src = xs ++ ys → s.srcGrant = xs.length →
    (t2 - s.nowIn).toNat ≤ 3000 →
    ∃ t u : State, exec .poll s = .next t ∧
      exec .poll { t with nowIn := t2, srcGrant := 25 } = .next u ∧
      exec .poll { s with nowIn := t2, srcGrant := 25 } = .next u

/-- S2 of the spec's properties, through the whole block: a frame built by FRAME25 with good markers and not both failsafe
bits, read by one POLL into an empty buffer, gives back raw / 2 + 998 on every matrix channel and 998 or 1998 on the two
digital ones (R175, R176, R177, R180). -/
def Obligations.EncodedFrameIsRecovered : Prop :=
  ∀ (raw : Vector (BitVec 11) 16) (flags : Byte) (more : List Byte) (s : State),
    ¬ (flags.getLsbD 2 = true ∧ flags.getLsbD 3 = true) → s.acc = 0 →
    s.src = frame25 raw flags 0x0F 0x00 ++ more → 25 ≤ s.srcGrant →
    ∃ t : State, exec .poll s = .next t ∧
      (∀ k : Fin 16, (t.ch[k.val]'(by have := k.isLt; omega)).toNat = raw[k].toNat / 2 + 998) ∧
      t.ch[16].toNat = (if flags.getLsbD 0 then 1998 else 998) ∧
      t.ch[17].toNat = (if flags.getLsbD 1 then 1998 else 998) ∧
      t.chCount = 18 ∧ t.frameTs = s.nowIn ∧ t.signalLost = false ∧ t.locked = true ∧ t.reportDue = true ∧
      t.dropcnt = s.dropcnt ∧ t.src = more

/-- R118, R21, R37 item 3: bytes of BUF at or above `acc`, left from earlier frames, have no influence. Two states that
differ only there take the same POLL: the states after it differ at most in BUF, and only at or above `acc`. -/
def Obligations.StaleBytesHaveNoInfluence : Prop :=
  ∀ (s : State) (other : Memory), s.acc.toNat ≤ 24 →
    (∀ i : Nat, i < s.acc.toNat → Memory.find other i = Memory.find s.buf i) →
    ∃ t u : State, exec .poll s = .next t ∧ exec .poll { s with buf := other } = .next u ∧
      u = { t with buf := u.buf } ∧ ∀ i : Nat, i < t.acc.toNat → Memory.find u.buf i = Memory.find t.buf i

/-- R37 item 3: from a state that meets the invariant, a POLL whose outcome is a frame class is DECODE on the buffer INTAKE
left, in the state with `acc` 25, and then the release of that buffer and LOCKEVAL; every one of the 25 bytes of the buffer
it decodes has been written. -/
def Obligations.DecoderReadsWrittenBytes : Prop :=
  ∀ s : State, Inv s → (pollOutcome s = .valid ∨ pollOutcome s = .sigloss ∨ pollOutcome s = .corrupt) →
    (pollFilled s).acc = 25 ∧
    exec .poll s = .next (updateLock (releaseBuffer (decodeBuffer (pollFilled s).buf (pollFilled s)))) ∧
    ∀ i : Nat, i < 25 → (Memory.find (pollFilled s).buf i).isSome = true

/-! ### The step -/

/-- R110: the command at the head of the port, offered to an idle block, is decoded and run in one step; around it the step
takes the environment's inputs and ends the pulse of the step before. -/
def Obligations.StepRunsTheOfferedCommand : Prop :=
  ∀ (s : State) (r : Request) (rest : List Input) (i : Instr),
    s.phase = .idle → s.pending = .command r :: rest → decode (.cmd r.cmd) = .ok i →
    step s = exec i { s with
      pending := rest, nowIn := r.now, src := s.src ++ r.arrivals, srcGrant := r.grant, reportDue := false }

/-- At DISPATCH the frame word in BUF is decoded and run, and the POLL it belongs to ends (R136, R137); the phase is the
model's way in (log 6). -/
def Obligations.StepRunsTheBufferedFrame : Prop :=
  ∀ (s : State) (i : Instr) (u : State),
    s.phase = .dispatch → ¬ takesReset s → decode (.frame (frameWord s.buf)) = .ok i →
    exec i { s with reportDue := false } = .next u →
    step s = .next { u with
      acc := 0, locked := lockAt u.goodValid u.lastGoodTime u.nowLatch, phase := .idle }

/-- At EXTRACT the ROM word of the row and entry, or a pick word by itself, is decoded and run; then the sequencer is idle
(log 6). -/
def Obligations.StepRunsThePickWord : Prop :=
  ∀ (s : State) (i : Instr) (u : State), ¬ takesReset s → exec i { s with reportDue := false } = .next u →
    (∀ (k : Fin 18) (j : Fin 3), s.phase = .extract k j → decode (.romSlot k j (romWord k j)) = .ok i →
      step s = .next { u with phase := .idle }) ∧
    (∀ w : PickWord, s.phase = .pickWord w → decode (.pickWord w) = .ok i → step s = .next { u with phase := .idle })

/-- The host's way in (log 6, log 10): if the decoder reads an instruction from a row's bits, then placing those bits makes
the next fetch find exactly that instruction, whatever the state was. -/
def Obligations.PlacedWordIsTheOneFetched : Prop :=
  ∀ (s : State) (nbits w : Nat) (i : Instr), decodeTableWord nbits w = some i →
    ∃ u : State, fetch (s.withFetchWord nbits w) = .run i u

/-- R224, R246: with nothing offered an idle block holds its state, `locked` included; only the pulse ends. -/
def Obligations.IdleBlockHoldsItsState : Prop :=
  ∀ s : State, s.phase = .idle → s.pending = [] → step s = .next { s with reportDue := false }

/-- Every step, on every input, completes and leaves the block ready for the next command (R210), or it is the refusal of a
reserved pick word (R90, 93 U2), which no step of an idle block meets. The phases other than idle, the refusal's among them,
are the model's way in (log 6). -/
def Obligations.StepCompletesOrRefusesReservedPick : Prop :=
  ∀ s : State,
    Completes s ∨
    ∃ w : PickWord, s.phase = .pickWord w ∧ reservedPick (unpackPick w) ∧
      step s = .refused (.reservedEncoding (.pickReserved w))

/-- The invariant holds right after reset. -/
def Obligations.ResetMeetsInvariant : Prop := Inv State.reset

/-- R37: every step keeps the invariant: `acc` stays below 25 between operations, BUF canonical and written below `acc`,
every channel register 0 or in its range, the record blank before the first VALID frame and consistent after it. -/
def Obligations.StepKeepsInvariant : Prop :=
  ∀ s t : State, Inv s → step s = .next t → Inv t

/-- R24, R25, R27, R29: the good-frame time, its valid bit, the channel registers and the record's timestamp are written by
a VALID frame, which pulses `report_due`, by REINIT and by reset, and by nothing else. -/
def Obligations.GoodTimeValidBitChannelsFrameTsOnlyByValidFrame : Prop :=
  ∀ s t : State, step s = .next t → t.reportDue = false → ¬ takesReset s → ¬ takesCommand s 0b10 →
    t.lastGoodTime = s.lastGoodTime ∧ t.goodValid = s.goodValid ∧ t.ch = s.ch ∧ t.frameTs = s.frameTs

/-- R246, R31: `locked` keeps its value in every step that runs no POLL to its end and takes no REINIT and no reset. -/
def Obligations.LockedHeldBetweenPolls : Prop :=
  ∀ s t : State, step s = .next t → ¬ takesReset s → ¬ takesCommand s 0b01 → ¬ takesCommand s 0b10 →
    s.phase ≠ .dispatch → t.locked = s.locked

/-- R69 item 2, R179: when `report_due` pulses, count, time, status and lock are those of the frame just decoded, and the
buffer is free. -/
def Obligations.PulseMeansFreshRecord : Prop :=
  ∀ s t : State, step s = .next t → t.reportDue = true →
    t.chCount = 18 ∧ t.frameTs = t.nowLatch ∧ t.lastGoodTime = t.nowLatch ∧ t.goodValid = true ∧
    t.signalLost = false ∧ t.locked = true ∧ t.acc = 0

/-- R26, R251: in a step other than REINIT and reset the drop counter advances by 0, 1 or 2, modulo 2^32, and by 2 only in a
step that runs a POLL. -/
def Obligations.DropCounterAdvancesByAtMostTwo : Prop :=
  ∀ s t : State, step s = .next t → ¬ takesReset s → ¬ takesCommand s 0b10 →
    t.dropcnt = s.dropcnt ∨ t.dropcnt = s.dropcnt + 1 ∨ (t.dropcnt = s.dropcnt + 2 ∧ takesCommand s 0b01)

/-- R138: elapsed time is right across a wrap of the clock, and a clock that goes back by less than 2^64 - 200000 ticks
looks older than both thresholds. -/
def Obligations.ElapsedTimeIsWrapSafe : Prop :=
  (∀ a b : Nat, b ≤ a → a < b + 2 ^ 64 → tsub (BitVec.ofNat 64 a) (BitVec.ofNat 64 b) = a - b) ∧
  (∀ a b : Time, a.toNat < b.toNat → b.toNat - a.toNat < 2 ^ 64 - 200000 → 200000 < tsub a b)

/-! ### The parameters (00_scope.md) -/

/-- R6: the record holds the eleven values of Table R6; its ticks are the source's 3 ms and 200 ms; times are subtracted
modulo 2^TIME_W (R138) and drops counted modulo 2^CNT_W (R26). -/
def Obligations.ImplementationParameters : Prop :=
  Config.hw = { maxCh := 18, timeW := 64, tick := 1, gapTicks := 3000, lockTicks := 200000, cntW := 32, chvW := 16,
                accW := 5, ccW := 5, pickW := 20, cmdW := 2 } ∧
  Config.hw.gapTicks * Config.hw.tick = 3 * 1000 ∧ Config.hw.lockTicks * Config.hw.tick = 200 * 1000 ∧
  (∀ a b : Time, tsub a b = (a.toNat + 2 ^ Config.hw.timeW - b.toNat) % 2 ^ Config.hw.timeW) ∧
  (∀ s : State, (absorb .malformedFrame s).dropcnt.toNat = (s.dropcnt.toNat + 1) % 2 ^ Config.hw.cntW)
end

