-- ==== Sys2Proof/Laws/State.lean ====
section
/-! SUPPORT. The bounds the widths of Table R6 give, and one lemma per field per named update of State, so that no proof
unfolds a record update. -/

namespace Sys2Proof.Machine

/-! ### Bounds of the words whose widths `Config.hw` gives, with the widths as numerals (for `omega`) -/

theorem toNat_time_lt (t : Time) : t.toNat < 2 ^ 64 := t.isLt
theorem toNat_dropCount_lt (c : DropCount) : c.toNat < 2 ^ 32 := c.isLt
theorem toNat_channelValue_lt (v : ChannelValue) : v.toNat < 2 ^ 16 := v.isLt
theorem toNat_byteCount_lt (a : ByteCount) : a.toNat < 2 ^ 5 := a.isLt
theorem toNat_pickWord_lt (w : PickWord) : w.toNat < 2 ^ 20 := w.isLt

/-- `tsub` on numbers, with the width as a numeral (R138). -/
theorem tsub_eq (a b : Time) : tsub a b = (2 ^ 64 - b.toNat + a.toNat) % 2 ^ 64 := BitVec.toNat_sub a b

variable (s : State)

/-! ### absorb_readEmpty -/

@[simp] theorem absorb_readEmpty_buf : (absorb .readEmpty s).buf = s.buf := rfl
@[simp] theorem absorb_readEmpty_acc : (absorb .readEmpty s).acc = s.acc := rfl
@[simp] theorem absorb_readEmpty_lastByteTime : (absorb .readEmpty s).lastByteTime = s.lastByteTime := rfl
@[simp] theorem absorb_readEmpty_lastGoodTime : (absorb .readEmpty s).lastGoodTime = s.lastGoodTime := rfl
@[simp] theorem absorb_readEmpty_goodValid : (absorb .readEmpty s).goodValid = s.goodValid := rfl
@[simp] theorem absorb_readEmpty_dropcnt : (absorb .readEmpty s).dropcnt = s.dropcnt := rfl
@[simp] theorem absorb_readEmpty_ch : (absorb .readEmpty s).ch = s.ch := rfl
@[simp] theorem absorb_readEmpty_chCount : (absorb .readEmpty s).chCount = s.chCount := rfl
@[simp] theorem absorb_readEmpty_frameTs : (absorb .readEmpty s).frameTs = s.frameTs := rfl
@[simp] theorem absorb_readEmpty_signalLost : (absorb .readEmpty s).signalLost = s.signalLost := rfl
@[simp] theorem absorb_readEmpty_locked : (absorb .readEmpty s).locked = s.locked := rfl
@[simp] theorem absorb_readEmpty_reportDue : (absorb .readEmpty s).reportDue = s.reportDue := rfl
@[simp] theorem absorb_readEmpty_phase : (absorb .readEmpty s).phase = s.phase := rfl
@[simp] theorem absorb_readEmpty_nowLatch : (absorb .readEmpty s).nowLatch = s.nowLatch := rfl
@[simp] theorem absorb_readEmpty_value : (absorb .readEmpty s).value = s.value := rfl
@[simp] theorem absorb_readEmpty_pending : (absorb .readEmpty s).pending = s.pending := rfl
@[simp] theorem absorb_readEmpty_nowIn : (absorb .readEmpty s).nowIn = s.nowIn := rfl
@[simp] theorem absorb_readEmpty_src : (absorb .readEmpty s).src = s.src := rfl
@[simp] theorem absorb_readEmpty_srcGrant : (absorb .readEmpty s).srcGrant = s.srcGrant := rfl

/-! ### absorb_frameTimeout -/

@[simp] theorem absorb_frameTimeout_buf : (absorb .frameTimeout s).buf = s.buf := rfl
@[simp] theorem absorb_frameTimeout_acc : (absorb .frameTimeout s).acc = 0 := rfl
@[simp] theorem absorb_frameTimeout_lastByteTime : (absorb .frameTimeout s).lastByteTime = s.lastByteTime := rfl
@[simp] theorem absorb_frameTimeout_lastGoodTime : (absorb .frameTimeout s).lastGoodTime = s.lastGoodTime := rfl
@[simp] theorem absorb_frameTimeout_goodValid : (absorb .frameTimeout s).goodValid = s.goodValid := rfl
@[simp] theorem absorb_frameTimeout_dropcnt : (absorb .frameTimeout s).dropcnt = s.dropcnt + 1 := rfl
@[simp] theorem absorb_frameTimeout_ch : (absorb .frameTimeout s).ch = s.ch := rfl
@[simp] theorem absorb_frameTimeout_chCount : (absorb .frameTimeout s).chCount = s.chCount := rfl
@[simp] theorem absorb_frameTimeout_frameTs : (absorb .frameTimeout s).frameTs = s.frameTs := rfl
@[simp] theorem absorb_frameTimeout_signalLost : (absorb .frameTimeout s).signalLost = s.signalLost := rfl
@[simp] theorem absorb_frameTimeout_locked : (absorb .frameTimeout s).locked = s.locked := rfl
@[simp] theorem absorb_frameTimeout_reportDue : (absorb .frameTimeout s).reportDue = s.reportDue := rfl
@[simp] theorem absorb_frameTimeout_phase : (absorb .frameTimeout s).phase = s.phase := rfl
@[simp] theorem absorb_frameTimeout_nowLatch : (absorb .frameTimeout s).nowLatch = s.nowLatch := rfl
@[simp] theorem absorb_frameTimeout_value : (absorb .frameTimeout s).value = s.value := rfl
@[simp] theorem absorb_frameTimeout_pending : (absorb .frameTimeout s).pending = s.pending := rfl
@[simp] theorem absorb_frameTimeout_nowIn : (absorb .frameTimeout s).nowIn = s.nowIn := rfl
@[simp] theorem absorb_frameTimeout_src : (absorb .frameTimeout s).src = s.src := rfl
@[simp] theorem absorb_frameTimeout_srcGrant : (absorb .frameTimeout s).srcGrant = s.srcGrant := rfl

/-! ### absorb_malformedFrame -/

@[simp] theorem absorb_malformedFrame_buf : (absorb .malformedFrame s).buf = s.buf := rfl
@[simp] theorem absorb_malformedFrame_acc : (absorb .malformedFrame s).acc = s.acc := rfl
@[simp] theorem absorb_malformedFrame_lastByteTime : (absorb .malformedFrame s).lastByteTime = s.lastByteTime := rfl
@[simp] theorem absorb_malformedFrame_lastGoodTime : (absorb .malformedFrame s).lastGoodTime = s.lastGoodTime := rfl
@[simp] theorem absorb_malformedFrame_goodValid : (absorb .malformedFrame s).goodValid = s.goodValid := rfl
@[simp] theorem absorb_malformedFrame_dropcnt : (absorb .malformedFrame s).dropcnt = s.dropcnt + 1 := rfl
@[simp] theorem absorb_malformedFrame_ch : (absorb .malformedFrame s).ch = s.ch := rfl
@[simp] theorem absorb_malformedFrame_chCount : (absorb .malformedFrame s).chCount = s.chCount := rfl
@[simp] theorem absorb_malformedFrame_frameTs : (absorb .malformedFrame s).frameTs = s.frameTs := rfl
@[simp] theorem absorb_malformedFrame_signalLost : (absorb .malformedFrame s).signalLost = s.signalLost := rfl
@[simp] theorem absorb_malformedFrame_locked : (absorb .malformedFrame s).locked = s.locked := rfl
@[simp] theorem absorb_malformedFrame_reportDue : (absorb .malformedFrame s).reportDue = s.reportDue := rfl
@[simp] theorem absorb_malformedFrame_phase : (absorb .malformedFrame s).phase = s.phase := rfl
@[simp] theorem absorb_malformedFrame_nowLatch : (absorb .malformedFrame s).nowLatch = s.nowLatch := rfl
@[simp] theorem absorb_malformedFrame_value : (absorb .malformedFrame s).value = s.value := rfl
@[simp] theorem absorb_malformedFrame_pending : (absorb .malformedFrame s).pending = s.pending := rfl
@[simp] theorem absorb_malformedFrame_nowIn : (absorb .malformedFrame s).nowIn = s.nowIn := rfl
@[simp] theorem absorb_malformedFrame_src : (absorb .malformedFrame s).src = s.src := rfl
@[simp] theorem absorb_malformedFrame_srcGrant : (absorb .malformedFrame s).srcGrant = s.srcGrant := rfl

/-! ### absorb_signalLoss -/

@[simp] theorem absorb_signalLoss_buf : (absorb .signalLoss s).buf = s.buf := rfl
@[simp] theorem absorb_signalLoss_acc : (absorb .signalLoss s).acc = s.acc := rfl
@[simp] theorem absorb_signalLoss_lastByteTime : (absorb .signalLoss s).lastByteTime = s.lastByteTime := rfl
@[simp] theorem absorb_signalLoss_lastGoodTime : (absorb .signalLoss s).lastGoodTime = s.lastGoodTime := rfl
@[simp] theorem absorb_signalLoss_goodValid : (absorb .signalLoss s).goodValid = s.goodValid := rfl
@[simp] theorem absorb_signalLoss_dropcnt : (absorb .signalLoss s).dropcnt = s.dropcnt := rfl
@[simp] theorem absorb_signalLoss_ch : (absorb .signalLoss s).ch = s.ch := rfl
@[simp] theorem absorb_signalLoss_chCount : (absorb .signalLoss s).chCount = 0 := rfl
@[simp] theorem absorb_signalLoss_frameTs : (absorb .signalLoss s).frameTs = s.frameTs := rfl
@[simp] theorem absorb_signalLoss_signalLost : (absorb .signalLoss s).signalLost = true := rfl
@[simp] theorem absorb_signalLoss_locked : (absorb .signalLoss s).locked = s.locked := rfl
@[simp] theorem absorb_signalLoss_reportDue : (absorb .signalLoss s).reportDue = s.reportDue := rfl
@[simp] theorem absorb_signalLoss_phase : (absorb .signalLoss s).phase = s.phase := rfl
@[simp] theorem absorb_signalLoss_nowLatch : (absorb .signalLoss s).nowLatch = s.nowLatch := rfl
@[simp] theorem absorb_signalLoss_value : (absorb .signalLoss s).value = s.value := rfl
@[simp] theorem absorb_signalLoss_pending : (absorb .signalLoss s).pending = s.pending := rfl
@[simp] theorem absorb_signalLoss_nowIn : (absorb .signalLoss s).nowIn = s.nowIn := rfl
@[simp] theorem absorb_signalLoss_src : (absorb .signalLoss s).src = s.src := rfl
@[simp] theorem absorb_signalLoss_srcGrant : (absorb .signalLoss s).srcGrant = s.srcGrant := rfl

/-! ### clearRegisters -/

@[simp] theorem clearRegisters_buf : (clearRegisters s).buf = s.buf := rfl
@[simp] theorem clearRegisters_acc : (clearRegisters s).acc = 0 := rfl
@[simp] theorem clearRegisters_lastByteTime : (clearRegisters s).lastByteTime = 0 := rfl
@[simp] theorem clearRegisters_lastGoodTime : (clearRegisters s).lastGoodTime = 0 := rfl
@[simp] theorem clearRegisters_goodValid : (clearRegisters s).goodValid = false := rfl
@[simp] theorem clearRegisters_dropcnt : (clearRegisters s).dropcnt = 0 := rfl
@[simp] theorem clearRegisters_ch : (clearRegisters s).ch = Vector.replicate 18 0 := rfl
@[simp] theorem clearRegisters_chCount : (clearRegisters s).chCount = 0 := rfl
@[simp] theorem clearRegisters_frameTs : (clearRegisters s).frameTs = 0 := rfl
@[simp] theorem clearRegisters_signalLost : (clearRegisters s).signalLost = false := rfl
@[simp] theorem clearRegisters_locked : (clearRegisters s).locked = false := rfl
@[simp] theorem clearRegisters_reportDue : (clearRegisters s).reportDue = s.reportDue := rfl
@[simp] theorem clearRegisters_phase : (clearRegisters s).phase = s.phase := rfl
@[simp] theorem clearRegisters_nowLatch : (clearRegisters s).nowLatch = s.nowLatch := rfl
@[simp] theorem clearRegisters_value : (clearRegisters s).value = s.value := rfl
@[simp] theorem clearRegisters_pending : (clearRegisters s).pending = s.pending := rfl
@[simp] theorem clearRegisters_nowIn : (clearRegisters s).nowIn = s.nowIn := rfl
@[simp] theorem clearRegisters_src : (clearRegisters s).src = s.src := rfl
@[simp] theorem clearRegisters_srcGrant : (clearRegisters s).srcGrant = s.srcGrant := rfl

/-! ### hardReset -/

@[simp] theorem hardReset_buf (n : Nat) : (hardReset n s).buf = s.buf := rfl
@[simp] theorem hardReset_acc (n : Nat) : (hardReset n s).acc = 0 := rfl
@[simp] theorem hardReset_lastByteTime (n : Nat) : (hardReset n s).lastByteTime = 0 := rfl
@[simp] theorem hardReset_lastGoodTime (n : Nat) : (hardReset n s).lastGoodTime = 0 := rfl
@[simp] theorem hardReset_goodValid (n : Nat) : (hardReset n s).goodValid = false := rfl
@[simp] theorem hardReset_dropcnt (n : Nat) : (hardReset n s).dropcnt = 0 := rfl
@[simp] theorem hardReset_ch (n : Nat) : (hardReset n s).ch = Vector.replicate 18 0 := rfl
@[simp] theorem hardReset_chCount (n : Nat) : (hardReset n s).chCount = 0 := rfl
@[simp] theorem hardReset_frameTs (n : Nat) : (hardReset n s).frameTs = 0 := rfl
@[simp] theorem hardReset_signalLost (n : Nat) : (hardReset n s).signalLost = false := rfl
@[simp] theorem hardReset_locked (n : Nat) : (hardReset n s).locked = false := rfl
@[simp] theorem hardReset_reportDue (n : Nat) : (hardReset n s).reportDue = false := rfl
@[simp] theorem hardReset_phase (n : Nat) : (hardReset n s).phase = .idle := rfl
@[simp] theorem hardReset_nowLatch (n : Nat) : (hardReset n s).nowLatch = s.nowLatch := rfl
@[simp] theorem hardReset_value (n : Nat) : (hardReset n s).value = s.value := rfl
@[simp] theorem hardReset_pending (n : Nat) : (hardReset n s).pending = s.pending := rfl
@[simp] theorem hardReset_nowIn (n : Nat) : (hardReset n s).nowIn = s.nowIn := rfl
@[simp] theorem hardReset_src (n : Nat) : (hardReset n s).src = s.src.drop n := rfl
@[simp] theorem hardReset_srcGrant (n : Nat) : (hardReset n s).srcGrant = s.srcGrant := rfl

/-! ### sample -/

@[simp] theorem sample_buf : (sample s).buf = s.buf := rfl
@[simp] theorem sample_acc : (sample s).acc = s.acc := rfl
@[simp] theorem sample_lastByteTime : (sample s).lastByteTime = s.lastByteTime := rfl
@[simp] theorem sample_lastGoodTime : (sample s).lastGoodTime = s.lastGoodTime := rfl
@[simp] theorem sample_goodValid : (sample s).goodValid = s.goodValid := rfl
@[simp] theorem sample_dropcnt : (sample s).dropcnt = s.dropcnt := rfl
@[simp] theorem sample_ch : (sample s).ch = s.ch := rfl
@[simp] theorem sample_chCount : (sample s).chCount = s.chCount := rfl
@[simp] theorem sample_frameTs : (sample s).frameTs = s.frameTs := rfl
@[simp] theorem sample_signalLost : (sample s).signalLost = s.signalLost := rfl
@[simp] theorem sample_locked : (sample s).locked = s.locked := rfl
@[simp] theorem sample_reportDue : (sample s).reportDue = false := rfl
@[simp] theorem sample_phase : (sample s).phase = s.phase := rfl
@[simp] theorem sample_nowLatch : (sample s).nowLatch = s.nowIn := rfl
@[simp] theorem sample_value : (sample s).value = s.value := rfl
@[simp] theorem sample_pending : (sample s).pending = s.pending := rfl
@[simp] theorem sample_nowIn : (sample s).nowIn = s.nowIn := rfl
@[simp] theorem sample_src : (sample s).src = s.src := rfl
@[simp] theorem sample_srcGrant : (sample s).srcGrant = s.srcGrant := rfl

/-! ### intake -/

@[simp] theorem intake_buf (rx : List Byte) : (intake rx s).buf = Memory.writeBytes s.buf s.acc.toNat rx := rfl
@[simp] theorem intake_acc (rx : List Byte) : (intake rx s).acc = BitVec.ofNat 5 (s.acc.toNat + rx.length) := rfl
@[simp] theorem intake_lastByteTime (rx : List Byte) : (intake rx s).lastByteTime = s.nowLatch := rfl
@[simp] theorem intake_lastGoodTime (rx : List Byte) : (intake rx s).lastGoodTime = s.lastGoodTime := rfl
@[simp] theorem intake_goodValid (rx : List Byte) : (intake rx s).goodValid = s.goodValid := rfl
@[simp] theorem intake_dropcnt (rx : List Byte) : (intake rx s).dropcnt = s.dropcnt := rfl
@[simp] theorem intake_ch (rx : List Byte) : (intake rx s).ch = s.ch := rfl
@[simp] theorem intake_chCount (rx : List Byte) : (intake rx s).chCount = s.chCount := rfl
@[simp] theorem intake_frameTs (rx : List Byte) : (intake rx s).frameTs = s.frameTs := rfl
@[simp] theorem intake_signalLost (rx : List Byte) : (intake rx s).signalLost = s.signalLost := rfl
@[simp] theorem intake_locked (rx : List Byte) : (intake rx s).locked = s.locked := rfl
@[simp] theorem intake_reportDue (rx : List Byte) : (intake rx s).reportDue = s.reportDue := rfl
@[simp] theorem intake_phase (rx : List Byte) : (intake rx s).phase = s.phase := rfl
@[simp] theorem intake_nowLatch (rx : List Byte) : (intake rx s).nowLatch = s.nowLatch := rfl
@[simp] theorem intake_value (rx : List Byte) : (intake rx s).value = s.value := rfl
@[simp] theorem intake_pending (rx : List Byte) : (intake rx s).pending = s.pending := rfl
@[simp] theorem intake_nowIn (rx : List Byte) : (intake rx s).nowIn = s.nowIn := rfl
@[simp] theorem intake_src (rx : List Byte) : (intake rx s).src = s.src.drop rx.length := rfl
@[simp] theorem intake_srcGrant (rx : List Byte) : (intake rx s).srcGrant = s.srcGrant := rfl

/-! ### releaseBuffer -/

@[simp] theorem releaseBuffer_buf : (releaseBuffer s).buf = s.buf := rfl
@[simp] theorem releaseBuffer_acc : (releaseBuffer s).acc = 0 := rfl
@[simp] theorem releaseBuffer_lastByteTime : (releaseBuffer s).lastByteTime = s.lastByteTime := rfl
@[simp] theorem releaseBuffer_lastGoodTime : (releaseBuffer s).lastGoodTime = s.lastGoodTime := rfl
@[simp] theorem releaseBuffer_goodValid : (releaseBuffer s).goodValid = s.goodValid := rfl
@[simp] theorem releaseBuffer_dropcnt : (releaseBuffer s).dropcnt = s.dropcnt := rfl
@[simp] theorem releaseBuffer_ch : (releaseBuffer s).ch = s.ch := rfl
@[simp] theorem releaseBuffer_chCount : (releaseBuffer s).chCount = s.chCount := rfl
@[simp] theorem releaseBuffer_frameTs : (releaseBuffer s).frameTs = s.frameTs := rfl
@[simp] theorem releaseBuffer_signalLost : (releaseBuffer s).signalLost = s.signalLost := rfl
@[simp] theorem releaseBuffer_locked : (releaseBuffer s).locked = s.locked := rfl
@[simp] theorem releaseBuffer_reportDue : (releaseBuffer s).reportDue = s.reportDue := rfl
@[simp] theorem releaseBuffer_phase : (releaseBuffer s).phase = s.phase := rfl
@[simp] theorem releaseBuffer_nowLatch : (releaseBuffer s).nowLatch = s.nowLatch := rfl
@[simp] theorem releaseBuffer_value : (releaseBuffer s).value = s.value := rfl
@[simp] theorem releaseBuffer_pending : (releaseBuffer s).pending = s.pending := rfl
@[simp] theorem releaseBuffer_nowIn : (releaseBuffer s).nowIn = s.nowIn := rfl
@[simp] theorem releaseBuffer_src : (releaseBuffer s).src = s.src := rfl
@[simp] theorem releaseBuffer_srcGrant : (releaseBuffer s).srcGrant = s.srcGrant := rfl

/-! ### updateLock -/

@[simp] theorem updateLock_buf : (updateLock s).buf = s.buf := rfl
@[simp] theorem updateLock_acc : (updateLock s).acc = s.acc := rfl
@[simp] theorem updateLock_lastByteTime : (updateLock s).lastByteTime = s.lastByteTime := rfl
@[simp] theorem updateLock_lastGoodTime : (updateLock s).lastGoodTime = s.lastGoodTime := rfl
@[simp] theorem updateLock_goodValid : (updateLock s).goodValid = s.goodValid := rfl
@[simp] theorem updateLock_dropcnt : (updateLock s).dropcnt = s.dropcnt := rfl
@[simp] theorem updateLock_ch : (updateLock s).ch = s.ch := rfl
@[simp] theorem updateLock_chCount : (updateLock s).chCount = s.chCount := rfl
@[simp] theorem updateLock_frameTs : (updateLock s).frameTs = s.frameTs := rfl
@[simp] theorem updateLock_signalLost : (updateLock s).signalLost = s.signalLost := rfl
@[simp] theorem updateLock_locked : (updateLock s).locked = lockEval s := rfl
@[simp] theorem updateLock_reportDue : (updateLock s).reportDue = s.reportDue := rfl
@[simp] theorem updateLock_phase : (updateLock s).phase = s.phase := rfl
@[simp] theorem updateLock_nowLatch : (updateLock s).nowLatch = s.nowLatch := rfl
@[simp] theorem updateLock_value : (updateLock s).value = s.value := rfl
@[simp] theorem updateLock_pending : (updateLock s).pending = s.pending := rfl
@[simp] theorem updateLock_nowIn : (updateLock s).nowIn = s.nowIn := rfl
@[simp] theorem updateLock_src : (updateLock s).src = s.src := rfl
@[simp] theorem updateLock_srcGrant : (updateLock s).srcGrant = s.srcGrant := rfl

/-! ### stamp -/

@[simp] theorem stamp_buf : (stamp s).buf = s.buf := rfl
@[simp] theorem stamp_acc : (stamp s).acc = s.acc := rfl
@[simp] theorem stamp_lastByteTime : (stamp s).lastByteTime = s.lastByteTime := rfl
@[simp] theorem stamp_lastGoodTime : (stamp s).lastGoodTime = s.nowLatch := rfl
@[simp] theorem stamp_goodValid : (stamp s).goodValid = true := rfl
@[simp] theorem stamp_dropcnt : (stamp s).dropcnt = s.dropcnt := rfl
@[simp] theorem stamp_ch : (stamp s).ch = s.ch := rfl
@[simp] theorem stamp_chCount : (stamp s).chCount = s.chCount := rfl
@[simp] theorem stamp_frameTs : (stamp s).frameTs = s.frameTs := rfl
@[simp] theorem stamp_signalLost : (stamp s).signalLost = s.signalLost := rfl
@[simp] theorem stamp_locked : (stamp s).locked = s.locked := rfl
@[simp] theorem stamp_reportDue : (stamp s).reportDue = s.reportDue := rfl
@[simp] theorem stamp_phase : (stamp s).phase = s.phase := rfl
@[simp] theorem stamp_nowLatch : (stamp s).nowLatch = s.nowLatch := rfl
@[simp] theorem stamp_value : (stamp s).value = s.value := rfl
@[simp] theorem stamp_pending : (stamp s).pending = s.pending := rfl
@[simp] theorem stamp_nowIn : (stamp s).nowIn = s.nowIn := rfl
@[simp] theorem stamp_src : (stamp s).src = s.src := rfl
@[simp] theorem stamp_srcGrant : (stamp s).srcGrant = s.srcGrant := rfl

/-! ### writeChannels -/

@[simp] theorem writeChannels_buf (p : Params) (b : Memory) : (writeChannels p b s).buf = s.buf := rfl
@[simp] theorem writeChannels_acc (p : Params) (b : Memory) : (writeChannels p b s).acc = s.acc := rfl
@[simp] theorem writeChannels_lastByteTime (p : Params) (b : Memory) : (writeChannels p b s).lastByteTime = s.lastByteTime := rfl
@[simp] theorem writeChannels_lastGoodTime (p : Params) (b : Memory) : (writeChannels p b s).lastGoodTime = s.lastGoodTime := rfl
@[simp] theorem writeChannels_goodValid (p : Params) (b : Memory) : (writeChannels p b s).goodValid = s.goodValid := rfl
@[simp] theorem writeChannels_dropcnt (p : Params) (b : Memory) : (writeChannels p b s).dropcnt = s.dropcnt := rfl
@[simp] theorem writeChannels_ch (p : Params) (b : Memory) : (writeChannels p b s).ch = digitalChannels p b (extractChannels p b s.ch) := rfl
@[simp] theorem writeChannels_chCount (p : Params) (b : Memory) : (writeChannels p b s).chCount = s.chCount := rfl
@[simp] theorem writeChannels_frameTs (p : Params) (b : Memory) : (writeChannels p b s).frameTs = s.frameTs := rfl
@[simp] theorem writeChannels_signalLost (p : Params) (b : Memory) : (writeChannels p b s).signalLost = s.signalLost := rfl
@[simp] theorem writeChannels_locked (p : Params) (b : Memory) : (writeChannels p b s).locked = s.locked := rfl
@[simp] theorem writeChannels_reportDue (p : Params) (b : Memory) : (writeChannels p b s).reportDue = s.reportDue := rfl
@[simp] theorem writeChannels_phase (p : Params) (b : Memory) : (writeChannels p b s).phase = s.phase := rfl
@[simp] theorem writeChannels_nowLatch (p : Params) (b : Memory) : (writeChannels p b s).nowLatch = s.nowLatch := rfl
@[simp] theorem writeChannels_value (p : Params) (b : Memory) : (writeChannels p b s).value = s.value := rfl
@[simp] theorem writeChannels_pending (p : Params) (b : Memory) : (writeChannels p b s).pending = s.pending := rfl
@[simp] theorem writeChannels_nowIn (p : Params) (b : Memory) : (writeChannels p b s).nowIn = s.nowIn := rfl
@[simp] theorem writeChannels_src (p : Params) (b : Memory) : (writeChannels p b s).src = s.src := rfl
@[simp] theorem writeChannels_srcGrant (p : Params) (b : Memory) : (writeChannels p b s).srcGrant = s.srcGrant := rfl

/-! ### emit -/

@[simp] theorem emit_buf (p : Params) : (emit p s).buf = s.buf := rfl
@[simp] theorem emit_acc (p : Params) : (emit p s).acc = s.acc := rfl
@[simp] theorem emit_lastByteTime (p : Params) : (emit p s).lastByteTime = s.lastByteTime := rfl
@[simp] theorem emit_lastGoodTime (p : Params) : (emit p s).lastGoodTime = s.lastGoodTime := rfl
@[simp] theorem emit_goodValid (p : Params) : (emit p s).goodValid = s.goodValid := rfl
@[simp] theorem emit_dropcnt (p : Params) : (emit p s).dropcnt = s.dropcnt := rfl
@[simp] theorem emit_ch (p : Params) : (emit p s).ch = s.ch := rfl
@[simp] theorem emit_chCount (p : Params) : (emit p s).chCount = BitVec.ofNat 5 (channelCount p) := rfl
@[simp] theorem emit_frameTs (p : Params) : (emit p s).frameTs = s.nowLatch := rfl
@[simp] theorem emit_signalLost (p : Params) : (emit p s).signalLost = false := rfl
@[simp] theorem emit_locked (p : Params) : (emit p s).locked = s.locked := rfl
@[simp] theorem emit_reportDue (p : Params) : (emit p s).reportDue = true := rfl
@[simp] theorem emit_phase (p : Params) : (emit p s).phase = s.phase := rfl
@[simp] theorem emit_nowLatch (p : Params) : (emit p s).nowLatch = s.nowLatch := rfl
@[simp] theorem emit_value (p : Params) : (emit p s).value = s.value := rfl
@[simp] theorem emit_pending (p : Params) : (emit p s).pending = s.pending := rfl
@[simp] theorem emit_nowIn (p : Params) : (emit p s).nowIn = s.nowIn := rfl
@[simp] theorem emit_src (p : Params) : (emit p s).src = s.src := rfl
@[simp] theorem emit_srcGrant (p : Params) : (emit p s).srcGrant = s.srcGrant := rfl

/-! ### publish -/

@[simp] theorem publish_buf (b : Memory) : (publish b s).buf = s.buf := rfl
@[simp] theorem publish_acc (b : Memory) : (publish b s).acc = s.acc := rfl
@[simp] theorem publish_lastByteTime (b : Memory) : (publish b s).lastByteTime = s.lastByteTime := rfl
@[simp] theorem publish_lastGoodTime (b : Memory) : (publish b s).lastGoodTime = s.nowLatch := rfl
@[simp] theorem publish_goodValid (b : Memory) : (publish b s).goodValid = true := rfl
@[simp] theorem publish_dropcnt (b : Memory) : (publish b s).dropcnt = s.dropcnt := rfl
@[simp] theorem publish_ch (b : Memory) : (publish b s).ch = digitalChannels Config.hw b (extractChannels Config.hw b s.ch) := rfl
@[simp] theorem publish_chCount (b : Memory) : (publish b s).chCount = 18 := rfl
@[simp] theorem publish_frameTs (b : Memory) : (publish b s).frameTs = s.nowLatch := rfl
@[simp] theorem publish_signalLost (b : Memory) : (publish b s).signalLost = false := rfl
@[simp] theorem publish_locked (b : Memory) : (publish b s).locked = s.locked := rfl
@[simp] theorem publish_reportDue (b : Memory) : (publish b s).reportDue = true := rfl
@[simp] theorem publish_phase (b : Memory) : (publish b s).phase = s.phase := rfl
@[simp] theorem publish_nowLatch (b : Memory) : (publish b s).nowLatch = s.nowLatch := rfl
@[simp] theorem publish_value (b : Memory) : (publish b s).value = s.value := rfl
@[simp] theorem publish_pending (b : Memory) : (publish b s).pending = s.pending := rfl
@[simp] theorem publish_nowIn (b : Memory) : (publish b s).nowIn = s.nowIn := rfl
@[simp] theorem publish_src (b : Memory) : (publish b s).src = s.src := rfl
@[simp] theorem publish_srcGrant (b : Memory) : (publish b s).srcGrant = s.srcGrant := rfl

/-! ### accumulate -/

@[simp] theorem accumulate_buf (e : PickEntry) : (accumulate e s).buf = s.buf := rfl
@[simp] theorem accumulate_acc (e : PickEntry) : (accumulate e s).acc = s.acc := rfl
@[simp] theorem accumulate_lastByteTime (e : PickEntry) : (accumulate e s).lastByteTime = s.lastByteTime := rfl
@[simp] theorem accumulate_lastGoodTime (e : PickEntry) : (accumulate e s).lastGoodTime = s.lastGoodTime := rfl
@[simp] theorem accumulate_goodValid (e : PickEntry) : (accumulate e s).goodValid = s.goodValid := rfl
@[simp] theorem accumulate_dropcnt (e : PickEntry) : (accumulate e s).dropcnt = s.dropcnt := rfl
@[simp] theorem accumulate_ch (e : PickEntry) : (accumulate e s).ch = s.ch := rfl
@[simp] theorem accumulate_chCount (e : PickEntry) : (accumulate e s).chCount = s.chCount := rfl
@[simp] theorem accumulate_frameTs (e : PickEntry) : (accumulate e s).frameTs = s.frameTs := rfl
@[simp] theorem accumulate_signalLost (e : PickEntry) : (accumulate e s).signalLost = s.signalLost := rfl
@[simp] theorem accumulate_locked (e : PickEntry) : (accumulate e s).locked = s.locked := rfl
@[simp] theorem accumulate_reportDue (e : PickEntry) : (accumulate e s).reportDue = s.reportDue := rfl
@[simp] theorem accumulate_phase (e : PickEntry) : (accumulate e s).phase = s.phase := rfl
@[simp] theorem accumulate_nowLatch (e : PickEntry) : (accumulate e s).nowLatch = s.nowLatch := rfl
@[simp] theorem accumulate_value (e : PickEntry) : (accumulate e s).value = s.value ||| pickPiece s.buf e := rfl
@[simp] theorem accumulate_pending (e : PickEntry) : (accumulate e s).pending = s.pending := rfl
@[simp] theorem accumulate_nowIn (e : PickEntry) : (accumulate e s).nowIn = s.nowIn := rfl
@[simp] theorem accumulate_src (e : PickEntry) : (accumulate e s).src = s.src := rfl
@[simp] theorem accumulate_srcGrant (e : PickEntry) : (accumulate e s).srcGrant = s.srcGrant := rfl

/-! ### accept -/

@[simp] theorem accept_buf (r : Request) : (accept r s).buf = s.buf := rfl
@[simp] theorem accept_acc (r : Request) : (accept r s).acc = s.acc := rfl
@[simp] theorem accept_lastByteTime (r : Request) : (accept r s).lastByteTime = s.lastByteTime := rfl
@[simp] theorem accept_lastGoodTime (r : Request) : (accept r s).lastGoodTime = s.lastGoodTime := rfl
@[simp] theorem accept_goodValid (r : Request) : (accept r s).goodValid = s.goodValid := rfl
@[simp] theorem accept_dropcnt (r : Request) : (accept r s).dropcnt = s.dropcnt := rfl
@[simp] theorem accept_ch (r : Request) : (accept r s).ch = s.ch := rfl
@[simp] theorem accept_chCount (r : Request) : (accept r s).chCount = s.chCount := rfl
@[simp] theorem accept_frameTs (r : Request) : (accept r s).frameTs = s.frameTs := rfl
@[simp] theorem accept_signalLost (r : Request) : (accept r s).signalLost = s.signalLost := rfl
@[simp] theorem accept_locked (r : Request) : (accept r s).locked = s.locked := rfl
@[simp] theorem accept_reportDue (r : Request) : (accept r s).reportDue = s.reportDue := rfl
@[simp] theorem accept_phase (r : Request) : (accept r s).phase = s.phase := rfl
@[simp] theorem accept_nowLatch (r : Request) : (accept r s).nowLatch = s.nowLatch := rfl
@[simp] theorem accept_value (r : Request) : (accept r s).value = s.value := rfl
@[simp] theorem accept_pending (r : Request) : (accept r s).pending = s.pending := rfl
@[simp] theorem accept_nowIn (r : Request) : (accept r s).nowIn = r.now := rfl
@[simp] theorem accept_src (r : Request) : (accept r s).src = s.src ++ r.arrivals := rfl
@[simp] theorem accept_srcGrant (r : Request) : (accept r s).srcGrant = r.grant := rfl

/-! ### lowerReport -/

@[simp] theorem lowerReport_buf : (lowerReport s).buf = s.buf := rfl
@[simp] theorem lowerReport_acc : (lowerReport s).acc = s.acc := rfl
@[simp] theorem lowerReport_lastByteTime : (lowerReport s).lastByteTime = s.lastByteTime := rfl
@[simp] theorem lowerReport_lastGoodTime : (lowerReport s).lastGoodTime = s.lastGoodTime := rfl
@[simp] theorem lowerReport_goodValid : (lowerReport s).goodValid = s.goodValid := rfl
@[simp] theorem lowerReport_dropcnt : (lowerReport s).dropcnt = s.dropcnt := rfl
@[simp] theorem lowerReport_ch : (lowerReport s).ch = s.ch := rfl
@[simp] theorem lowerReport_chCount : (lowerReport s).chCount = s.chCount := rfl
@[simp] theorem lowerReport_frameTs : (lowerReport s).frameTs = s.frameTs := rfl
@[simp] theorem lowerReport_signalLost : (lowerReport s).signalLost = s.signalLost := rfl
@[simp] theorem lowerReport_locked : (lowerReport s).locked = s.locked := rfl
@[simp] theorem lowerReport_reportDue : (lowerReport s).reportDue = false := rfl
@[simp] theorem lowerReport_phase : (lowerReport s).phase = s.phase := rfl
@[simp] theorem lowerReport_nowLatch : (lowerReport s).nowLatch = s.nowLatch := rfl
@[simp] theorem lowerReport_value : (lowerReport s).value = s.value := rfl
@[simp] theorem lowerReport_pending : (lowerReport s).pending = s.pending := rfl
@[simp] theorem lowerReport_nowIn : (lowerReport s).nowIn = s.nowIn := rfl
@[simp] theorem lowerReport_src : (lowerReport s).src = s.src := rfl
@[simp] theorem lowerReport_srcGrant : (lowerReport s).srcGrant = s.srcGrant := rfl

end Sys2Proof.Machine
end

