-- ==== Sys2Proof/Laws/Memory.lean ====
section
/-! SUPPORT. BUF: what a read gives after a write, and that every operation keeps the canonical form. -/

namespace Sys2Proof.Machine

namespace Memory

theorem find_write_self (m : Memory) (a : Nat) (v : Byte) : find (write m a v) a = some v := by
  induction m with
  | nil => simp [write, find]
  | cons c m ih =>
    unfold write
    split
    · simp [find]
    · split
      · simp [find]
      · have : ¬ c.1 = a := by omega
        simpa [find, this] using ih

theorem find_write_ne (m : Memory) {a i : Nat} (v : Byte) (h : i ≠ a) : find (write m a v) i = find m i := by
  have h' : ¬ a = i := fun e => h e.symm
  induction m with
  | nil => simp [write, find, h']
  | cons c m ih =>
    unfold write
    split
    · simp [find, h']
    · split
      · next e => simp [find, h', ← e]
      · simp [find, ih]

/-- A read of one byte after a write of one byte. -/
theorem find_write (m : Memory) (a i : Nat) (v : Byte) :
    find (write m a v) i = if i = a then some v else find m i := by
  split
  · next h => subst h; exact find_write_self m i v
  · next h => exact find_write_ne m v h

/-- A read of one byte after a stream of bytes has been written from `a` on. -/
theorem find_writeBytes (m : Memory) (a i : Nat) (bs : List Byte) :
    find (writeBytes m a bs) i = if a ≤ i ∧ i < a + bs.length then bs[i - a]? else find m i := by
  induction bs generalizing m a with
  | nil => simp [writeBytes]
  | cons b bs ih =>
    simp only [writeBytes, ih, find_write, List.length_cons]
    by_cases h : i = a
    · subst h; simp
    · by_cases h1 : a + 1 ≤ i ∧ i < a + 1 + bs.length
      · have h2 : a ≤ i ∧ i < a + (bs.length + 1) := by omega
        rw [if_pos h1, if_pos h2, show i - a = (i - (a + 1)) + 1 by omega, List.getElem?_cons_succ]
      · have h2 : ¬ (a ≤ i ∧ i < a + (bs.length + 1)) := by omega
        rw [if_neg h1, if_neg h2, if_neg h]

theorem find_writeBytes_outside (m : Memory) {a i : Nat} (bs : List Byte) (h : i < a ∨ a + bs.length ≤ i) :
    find (writeBytes m a bs) i = find m i := by
  rw [find_writeBytes, if_neg (by omega)]

theorem find_writeBytes_inside (m : Memory) (a j : Nat) (bs : List Byte) (h : j < bs.length) :
    find (writeBytes m a bs) (a + j) = some bs[j] := by
  rw [find_writeBytes, if_pos (by omega)]; simp [h]

theorem isSome_find_writeBytes (m : Memory) (a i : Nat) (bs : List Byte)
    (h : (find m i).isSome = true ∨ (a ≤ i ∧ i < a + bs.length)) :
    (find (writeBytes m a bs) i).isSome = true := by
  rw [find_writeBytes]
  split
  · next hi => rw [List.getElem?_eq_getElem (by omega)]; rfl
  · next hi => exact h.resolve_right hi

/-- Every cell of a written buffer is the written one or an old one. -/
theorem mem_write {m : Memory} {a : Nat} {v : Byte} {c : Host.Cell} (h : c ∈ write m a v) : c = (a, v) ∨ c ∈ m := by
  induction m with
  | nil => simpa [write] using h
  | cons d m ih =>
    unfold write at h
    split at h
    · simpa using h
    · split at h
      · simp only [List.mem_cons] at h ⊢; tauto
      · simp only [List.mem_cons] at h ⊢
        rcases h with h | h
        · exact .inr (.inl h)
        · rcases ih h with h | h
          · exact .inl h
          · exact .inr (.inr h)

theorem write_wf {m : Memory} {a : Nat} (v : Byte) (h : wf m) (ha : a < Config.frameLen) : wf (write m a v) := by
  refine ⟨?_, ?_⟩
  · have hp := h.1
    clear h
    induction m with
    | nil => simp [write]
    | cons c m ih =>
      rw [List.pairwise_cons] at hp
      unfold write
      split
      · next hlt =>
        rw [List.pairwise_cons, List.pairwise_cons]
        refine ⟨?_, hp⟩
        intro d hd
        rcases List.mem_cons.mp hd with rfl | hd
        · exact hlt
        · exact Nat.lt_trans hlt (hp.1 d hd)
      · split
        · next heq =>
          rw [List.pairwise_cons]
          exact ⟨fun d hd => by have := hp.1 d hd; show a < d.1; omega, hp.2⟩
        · rw [List.pairwise_cons]
          refine ⟨?_, ih hp.2⟩
          intro d hd
          rcases mem_write hd with rfl | hd
          · show c.1 < a; omega
          · exact hp.1 d hd
  · intro c hc
    rcases mem_write hc with rfl | hc
    · exact ha
    · exact h.2 c hc

theorem writeBytes_wf {m : Memory} {a : Nat} (bs : List Byte) (h : wf m) (ha : a + bs.length ≤ Config.frameLen) :
    wf (writeBytes m a bs) := by
  induction bs generalizing m a with
  | nil => exact h
  | cons b bs ih =>
    simp only [List.length_cons] at ha
    exact ih (write_wf b h (by omega)) (by omega)

/-- Two reads agree where the cells do. -/
theorem read_congr {m m' : Memory} {i : Nat} (h : find m i = find m' i) : read m i = read m' i := by
  rw [read, read, h]

theorem read_write (m : Memory) (a i : Nat) (v : Byte) :
    read (write m a v) i = if i = a then v else read m i := by
  simp only [read, find_write]; split <;> rfl

/-- Writing a byte again changes nothing that can be read. -/
theorem read_writeBytes_inside (m : Memory) (a j : Nat) (bs : List Byte) (h : j < bs.length) :
    read (writeBytes m a bs) (a + j) = bs[j] := by
  rw [read, find_writeBytes_inside m a j bs h]; rfl

end Memory

/-- The reset buffer is canonical. -/
theorem reset_buf_wf : Memory.wf State.reset.buf := by decide

end Sys2Proof.Machine
end

