-- ==== Sys2Proof/Laws/Frame.lean ====
section
/-! SUPPORT. The frame word and the buffer that holds it: each byte of one is the byte of the other. -/

namespace Sys2Proof

theorem leNat_lt (bs : List Byte) : leNat bs < 256 ^ bs.length := by
  induction bs with
  | nil => simp [leNat]
  | cons b bs ih =>
    have := b.isLt
    simp only [leNat, List.length_cons, Nat.pow_succ]
    omega

/-- Byte `i` of a little-endian number. -/
theorem leNat_byte (bs : List Byte) (i : Nat) (h : i < bs.length) : leNat bs / 256 ^ i % 256 = bs[i].toNat := by
  induction bs generalizing i with
  | nil => simp at h
  | cons b bs ih =>
    have := b.isLt
    cases i with
    | zero => simp [leNat]; omega
    | succ i =>
      have h' : i < bs.length := by simpa using h
      rw [leNat, Nat.pow_succ', ← Nat.div_div_eq_div_mul, show (b.toNat + 256 * leNat bs) / 256 = leNat bs by omega]
      simpa using ih i h'

theorem leBytes_length (n w : Nat) : (leBytes n w).length = n := by
  induction n generalizing w with
  | zero => rfl
  | succ n ih => simp [leBytes, ih]

theorem leNat_leBytes (n w : Nat) (h : w < 256 ^ n) : leNat (leBytes n w) = w := by
  induction n generalizing w with
  | zero => simp at h; simp [leBytes, leNat, h]
  | succ n ih =>
    have h' : w / 256 < 256 ^ n := by rw [Nat.div_lt_iff_lt_mul (by omega)]; rwa [Nat.pow_succ] at h
    simp only [leBytes, leNat, ih _ h', BitVec.toNat_ofNat]
    omega

namespace Machine

theorem Memory.bytes_length (m : Memory) : (Memory.bytes m).length = 25 := by simp [Memory.bytes]

theorem Memory.bytes_getElem (m : Memory) (i : Nat) (h : i < (Memory.bytes m).length) :
    (Memory.bytes m)[i] = Memory.read m i := by simp [Memory.bytes]

theorem toNat_frameWord (m : Memory) : (frameWord m).toNat = leNat (Memory.bytes m) := by
  have hl := leNat_lt (Memory.bytes m)
  rw [Memory.bytes_length, show (256 : Nat) ^ 25 = 2 ^ 200 by norm_num] at hl
  rw [frameWord, BitVec.toNat_ofNat]
  exact Nat.mod_eq_of_lt hl

/-- `F[8i+7 : 8i] = buf[i]` (R85). -/
theorem frameWord_byte (m : Memory) (i : Nat) (h : i < 25) : (frameWord m).extractLsb' (8 * i) 8 = Memory.read m i := by
  apply BitVec.eq_of_toNat_eq
  have hb := leNat_byte (Memory.bytes m) i (by rw [Memory.bytes_length]; exact h)
  rw [Memory.bytes_getElem] at hb
  rw [BitVec.extractLsb'_toNat, toNat_frameWord, Nat.shiftRight_eq_div_pow, Nat.pow_mul, ← hb]

/-- Bit `8i + n` of the frame word is bit `n` of `buf[i]`. -/
theorem frameWord_bit (m : Memory) (i n : Nat) (h : i < 25) (hn : n < 8) :
    (frameWord m).getLsbD (8 * i + n) = (Memory.read m i).getLsbD n := by
  rw [← frameWord_byte m i h]; simp [hn]

theorem find_map_range (f : Nat → Byte) (n i : Nat) (h : i < n) (k : Nat) :
    Memory.find ((List.range' k n).map fun j => (j, f j)) (k + i) = some (f (k + i)) := by
  induction n generalizing k i with
  | zero => omega
  | succ n ih =>
    rw [List.range'_succ, List.map_cons, Memory.find]
    cases i with
    | zero => simp
    | succ i =>
      have : ¬ k = k + (i + 1) := by omega
      rw [if_neg this, show k + (i + 1) = (k + 1) + i by omega]
      exact ih i (by omega) (k + 1)

/-- The buffer of a frame word has every byte written. -/
theorem find_bufferOf (F : BitVec 200) (i : Nat) (h : i < 25) :
    Memory.find (bufferOf F) i = some (F.extractLsb' (8 * i) 8) := by
  have := find_map_range (fun j => F.extractLsb' (8 * j) 8) 25 i h 0
  rw [← List.range_eq_range'] at this
  simpa [bufferOf] using this

theorem read_bufferOf (F : BitVec 200) (i : Nat) (h : i < 25) :
    Memory.read (bufferOf F) i = F.extractLsb' (8 * i) 8 := by
  rw [Memory.read, find_bufferOf F i h]; rfl

theorem bufferOf_wf (F : BitVec 200) : Memory.wf (bufferOf F) := by
  constructor
  · rw [bufferOf, List.pairwise_map]; exact List.pairwise_lt_range
  · intro c hc
    simp only [bufferOf, List.mem_map, List.mem_range] at hc
    obtain ⟨i, hi, rfl⟩ := hc
    exact hi

/-- Writing a frame word to a buffer and reading it back. -/
theorem frameWord_bufferOf (F : BitVec 200) : frameWord (bufferOf F) = F := by
  apply BitVec.eq_of_getLsbD_eq
  intro i hi
  have h := frameWord_bit (bufferOf F) (i / 8) (i % 8) (by omega) (by omega)
  rw [show 8 * (i / 8) + i % 8 = i by omega, read_bufferOf F _ (by omega)] at h
  rw [h, BitVec.getLsbD_extractLsb']
  simp [show i % 8 < 8 by omega, show 8 * (i / 8) + i % 8 = i by omega]

/-- A buffer and the buffer of its frame word read alike. -/
theorem read_bufferOf_frameWord (m : Memory) (i : Nat) (h : i < 25) :
    Memory.read (bufferOf (frameWord m)) i = Memory.read m i := by
  rw [read_bufferOf _ i h, frameWord_byte m i h]

/-- The word of a decoded frame, put together again from its fields. -/
theorem frameWordOf_fields (F : BitVec 200) :
    frameWordOf (frameStart F) (frameEnd F) (frameSiglost F) (frameFailsafe F) (framePayload F) = F := by
  apply BitVec.eq_of_getLsbD_eq
  intro i hi
  simp only [frameWordOf, frameStart, frameEnd, frameSiglost, frameFailsafe, framePayload, BitVec.getLsbD_append,
    BitVec.getLsbD_extractLsb', BitVec.getLsbD_ofBool]
  split
  · simp_all
  · split
    · next h1 h2 => simp [h2, show 8 + (i - 8) = i by omega]
    · split
      · next h1 h2 h3 =>
        split
        · next h4 => simp [show i = 184 by omega]
        · split
          · next h4 h5 => simp [show i = 185 by omega]
          · split
            · next h4 h5 h6 => simp [show i = 186 by omega]
            · split
              · next h4 h5 h6 h7 => simp [show i = 187 by omega]
              · next h4 h5 h6 h7 => simp [show i - 8 - 176 - 1 - 1 - 1 - 1 < 4 by omega, show 188 + (i - 8 - 176 - 1 - 1 - 1 - 1) = i by omega]
      · next h1 h2 h3 => simp [show i - 8 - 176 - 8 < 8 by omega, show 192 + (i - 8 - 176 - 8) = i by omega]

/-- Every bit of a frame word, from its fields (R84 to R86). -/
theorem frameWordOf_bit (a b : Byte) (sl fs : Bool) (p : FramePayload) (n : Nat) (h : n < 200) :
    (frameWordOf a b sl fs p).getLsbD n =
      if n < 8 then a.getLsbD n
      else if n < 184 then p.chfield.getLsbD (n - 8)
      else if n = 184 then p.d17
      else if n = 185 then p.d18
      else if n = 186 then sl
      else if n = 187 then fs
      else if n < 192 then p.unused.getLsbD (n - 188)
      else b.getLsbD (n - 192) := by
  simp only [frameWordOf, BitVec.getLsbD_append, BitVec.getLsbD_ofBool]
  split_ifs
  all_goals first
    | (exfalso; omega)
    | with_reducible rfl
    | rw [decide_eq_true (by omega), Bool.true_and]
    | exact congrArg _ (by omega)

/-- The markers and failsafe bits of a frame word put together from its fields. -/
theorem frameWordOf_checks (a b : Byte) (sl fs : Bool) (p : FramePayload) :
    frameStart (frameWordOf a b sl fs p) = a ∧ frameEnd (frameWordOf a b sl fs p) = b ∧
    frameSiglost (frameWordOf a b sl fs p) = sl ∧ frameFailsafe (frameWordOf a b sl fs p) = fs := by
  refine ⟨?_, ?_, ?_, ?_⟩
  · apply BitVec.eq_of_getLsbD_eq
    intro i hi
    rw [frameStart, BitVec.getLsbD_extractLsb', frameWordOf_bit _ _ _ _ _ _ (by omega)]
    simp [hi]
  · apply BitVec.eq_of_getLsbD_eq
    intro i hi
    rw [frameEnd, BitVec.getLsbD_extractLsb', frameWordOf_bit _ _ _ _ _ _ (by omega)]
    simp [hi, show ¬ 192 + i < 8 by omega, show ¬ 192 + i < 184 by omega, show ¬ 192 + i = 184 by omega,
      show ¬ 192 + i = 185 by omega, show ¬ 192 + i = 186 by omega, show ¬ 192 + i = 187 by omega,
      show ¬ 192 + i < 192 by omega]
  · rw [frameSiglost, frameWordOf_bit _ _ _ _ _ _ (by omega)]; simp
  · rw [frameFailsafe, frameWordOf_bit _ _ _ _ _ _ (by omega)]; simp

/-- The payload of a frame word put together from its fields. -/
theorem framePayload_frameWordOf (a b : Byte) (sl fs : Bool) (p : FramePayload) :
    framePayload (frameWordOf a b sl fs p) = p := by
  cases p with | mk c d e u =>
  simp only [framePayload, FramePayload.mk.injEq]
  refine ⟨?_, ?_, ?_, ?_⟩
  · apply BitVec.eq_of_getLsbD_eq
    intro i hi
    rw [BitVec.getLsbD_extractLsb', frameWordOf_bit _ _ _ _ _ _ (by omega)]
    simp [hi, show ¬ 8 + i < 8 by omega, show 8 + i < 184 by omega]
  · rw [frameWordOf_bit _ _ _ _ _ _ (by omega)]; simp
  · rw [frameWordOf_bit _ _ _ _ _ _ (by omega)]; simp
  · apply BitVec.eq_of_getLsbD_eq
    intro i hi
    rw [BitVec.getLsbD_extractLsb', frameWordOf_bit _ _ _ _ _ _ (by omega)]
    simp [hi, show ¬ 188 + i < 8 by omega, show ¬ 188 + i < 184 by omega, show ¬ 188 + i = 184 by omega,
      show ¬ 188 + i = 185 by omega, show ¬ 188 + i = 186 by omega, show ¬ 188 + i = 187 by omega,
      show 188 + i < 192 by omega]

end Machine

end Sys2Proof
end

