-- ==== Sys2Proof/Laws/Extraction.lean ====
section
/-! SUPPORT. The extraction engine reads its buffer through `Memory.read` alone, at addresses below 25. -/

namespace Sys2Proof.Machine

/-- Two buffers that hold the same 25 bytes. -/
def SameBytes (b c : Memory) : Prop := ∀ i : Nat, i < 25 → Memory.read b i = Memory.read c i

theorem SameBytes.of_bufferOf (b : Memory) : SameBytes (bufferOf (frameWord b)) b :=
  fun i hi => read_bufferOf_frameWord b i hi

theorem pickPiece_congr {b c : Memory} (h : SameBytes b c) {e : PickEntry} (he : e.off.toNat ≤ 23) :
    pickPiece b e = pickPiece c e := by
  unfold pickPiece
  rw [h (1 + e.off.toNat) (by omega)]

/-- Every ROM entry is well formed (R90). -/
theorem romEntry_wf : ∀ (k : Fin 18) (j : Fin 3), (romEntry k j).wf = true := by decide

theorem romEntry_off (k : Fin 18) (j : Fin 3) : (romEntry k j).off.toNat ≤ 22 := by
  have h := romEntry_wf k j
  simp only [PickEntry.wf, Bool.and_eq_true, decide_eq_true_eq] at h
  exact h.1.1

theorem rawChannel_congr {b c : Memory} (h : SameBytes b c) (k : Fin 18) : rawChannel b k = rawChannel c k := by
  have hj : ∀ j, pickPiece b (romEntry k j) = pickPiece c (romEntry k j) :=
    fun j => pickPiece_congr h (by have := romEntry_off k j; omega)
  simp only [rawChannel, hj]

theorem extractChannels_congr {b c : Memory} (h : SameBytes b c) (p : Params) (ch : Vector ChannelValue 18) :
    extractChannels p b ch = extractChannels p c ch := by
  simp only [extractChannels, rawChannel_congr h]

theorem digitalChannels_congr {b c : Memory} (h : SameBytes b c) (p : Params) (ch : Vector ChannelValue 18) :
    digitalChannels p b ch = digitalChannels p c ch := by
  simp only [digitalChannels, h Config.flagsIdx (by decide)]

theorem publish_congr {b c : Memory} (h : SameBytes b c) (s : State) : publish b s = publish c s := by
  simp only [publish, writeChannels, extractChannels_congr h, digitalChannels_congr h]

theorem markersBad_congr {b c : Memory} (h : SameBytes b c) : markersBad b = markersBad c := by
  rw [markersBad, markersBad, h 0 (by omega), h 24 (by omega)]

theorem failsafeBoth_congr {b c : Memory} (h : SameBytes b c) : failsafeBoth b = failsafeBoth c := by
  rw [failsafeBoth, failsafeBoth, h Config.flagsIdx (by decide)]

theorem decodeBuffer_congr {b c : Memory} (h : SameBytes b c) (s : State) : decodeBuffer b s = decodeBuffer c s := by
  rw [decodeBuffer, decodeBuffer, markersBad_congr h, failsafeBoth_congr h, publish_congr h]

/-- The raw value of the row of channel k is below 2048; normalized it is 998 to 2021 (R176). -/
theorem toNat_normChannel (raw : BitVec 11) : (normChannel raw).toNat = raw.toNat / 2 + 998 := by
  have := raw.isLt
  simp only [normChannel, BitVec.toNat_ofNat, Config.normDiv, Config.normOff]
  omega

theorem digital_eq (bit : Bool) : digital bit = if bit then 1998 else 998 := by cases bit <;> decide

theorem extractChannels_getElem (p : Params) (b : Memory) (ch : Vector ChannelValue 18) (k : Fin 18) :
    (extractChannels p b ch)[k] = if k.val < channelCount p then normChannel (rawChannel b k) else ch[k] := by
  simp [extractChannels]

theorem digitalChannels_getElem (p : Params) (b : Memory) (ch : Vector ChannelValue 18) (k : Fin 18) :
    (digitalChannels p b ch)[k] =
      if p.maxCh > 17 ∧ k.val = 17 then digital ((Memory.read b 23).getLsbD 1)
      else if p.maxCh > 17 ∧ k.val = 16 then digital ((Memory.read b 23).getLsbD 0)
      else ch[k] := by
  unfold digitalChannels
  by_cases h : p.maxCh > 17
  · rw [if_pos h]
    simp only [Fin.getElem_fin, Vector.getElem_set, h, true_and, eq_comm (b := k.val), Config.flagsIdx]
  · simp [h]

/-- One channel register after a VALID frame, for this hardware's 18 channels (R176, R177). -/
theorem channel_eq (b : Memory) (ch : Vector ChannelValue 18) (k : Fin 18) :
    (digitalChannels Config.hw b (extractChannels Config.hw b ch))[k] =
      if k.val = 17 then digital ((Memory.read b 23).getLsbD 1)
      else if k.val = 16 then digital ((Memory.read b 23).getLsbD 0)
      else normChannel (rawChannel b k) := by
  rw [digitalChannels_getElem, extractChannels_getElem, if_pos (show k.val < channelCount Config.hw from k.isLt)]
  simp

end Sys2Proof.Machine
end

