-- ==== Sys2Proof/Laws/PerInstr.lean ====
section
/-! SUPPORT. Per-instruction laws: the bits of every instruction stand in the format of its row (R80, R92). -/

namespace Sys2Proof.Laws.EncodedFormat

/-- The encoding of an instruction has the format of its row of the opcode table. -/
def Statement (i : Instr) : Prop := (encode i).format = i.format

theorem nop : Statement .nop := rfl
theorem poll : Statement .poll := rfl
theorem reinit : Statement .reinit := rfl
theorem rsvd : Statement .rsvd := rfl
theorem frameSigloss (p : FramePayload) : Statement (.frameSigloss p) := rfl
theorem frameValid (p : FramePayload) : Statement (.frameValid p) := rfl
theorem frameValidSl (p : FramePayload) : Statement (.frameValidSl p) := rfl
theorem frameValidFs (p : FramePayload) : Statement (.frameValidFs p) := rfl
theorem frameCorrupt (start stop : Byte) (siglost failsafe : Bool) (p : FramePayload) :
    Statement (.frameCorrupt start stop siglost failsafe p) := rfl
theorem pick (e : PickEntry) : Statement (.pick e) := rfl
theorem pickC0E0 : Statement .pickC0E0 := rfl
theorem pickC0E1 : Statement .pickC0E1 := rfl
theorem pickC0E2 : Statement .pickC0E2 := rfl
theorem pickC1E0 : Statement .pickC1E0 := rfl
theorem pickC1E1 : Statement .pickC1E1 := rfl
theorem pickC1E2 : Statement .pickC1E2 := rfl
theorem pickC2E0 : Statement .pickC2E0 := rfl
theorem pickC2E1 : Statement .pickC2E1 := rfl
theorem pickC2E2 : Statement .pickC2E2 := rfl
theorem pickC3E0 : Statement .pickC3E0 := rfl
theorem pickC3E1 : Statement .pickC3E1 := rfl
theorem pickC3E2 : Statement .pickC3E2 := rfl
theorem pickC4E0 : Statement .pickC4E0 := rfl
theorem pickC4E1 : Statement .pickC4E1 := rfl
theorem pickC4E2 : Statement .pickC4E2 := rfl
theorem pickC5E0 : Statement .pickC5E0 := rfl
theorem pickC5E1 : Statement .pickC5E1 := rfl
theorem pickC5E2 : Statement .pickC5E2 := rfl
theorem pickC6E0 : Statement .pickC6E0 := rfl
theorem pickC6E1 : Statement .pickC6E1 := rfl
theorem pickC6E2 : Statement .pickC6E2 := rfl
theorem pickC7E0 : Statement .pickC7E0 := rfl
theorem pickC7E1 : Statement .pickC7E1 := rfl
theorem pickC7E2 : Statement .pickC7E2 := rfl
theorem pickC8E0 : Statement .pickC8E0 := rfl
theorem pickC8E1 : Statement .pickC8E1 := rfl
theorem pickC8E2 : Statement .pickC8E2 := rfl
theorem pickC9E0 : Statement .pickC9E0 := rfl
theorem pickC9E1 : Statement .pickC9E1 := rfl
theorem pickC9E2 : Statement .pickC9E2 := rfl
theorem pickC10E0 : Statement .pickC10E0 := rfl
theorem pickC10E1 : Statement .pickC10E1 := rfl
theorem pickC10E2 : Statement .pickC10E2 := rfl
theorem pickC11E0 : Statement .pickC11E0 := rfl
theorem pickC11E1 : Statement .pickC11E1 := rfl
theorem pickC11E2 : Statement .pickC11E2 := rfl
theorem pickC12E0 : Statement .pickC12E0 := rfl
theorem pickC12E1 : Statement .pickC12E1 := rfl
theorem pickC12E2 : Statement .pickC12E2 := rfl
theorem pickC13E0 : Statement .pickC13E0 := rfl
theorem pickC13E1 : Statement .pickC13E1 := rfl
theorem pickC13E2 : Statement .pickC13E2 := rfl
theorem pickC14E0 : Statement .pickC14E0 := rfl
theorem pickC14E1 : Statement .pickC14E1 := rfl
theorem pickC14E2 : Statement .pickC14E2 := rfl
theorem pickC15E0 : Statement .pickC15E0 := rfl
theorem pickC15E1 : Statement .pickC15E1 := rfl
theorem pickC15E2 : Statement .pickC15E2 := rfl
theorem pickC16E0 : Statement .pickC16E0 := rfl
theorem pickC16E1 : Statement .pickC16E1 := rfl
theorem pickC16E2 : Statement .pickC16E2 := rfl
theorem pickC17E0 : Statement .pickC17E0 := rfl
theorem pickC17E1 : Statement .pickC17E1 := rfl
theorem pickC17E2 : Statement .pickC17E2 := rfl

end Sys2Proof.Laws.EncodedFormat
end

