-- ==== Sys2Proof/Laws/Poll.lean ====
section
/-! SUPPORT. What each meaning can do, said once: DECODE, POLL, and the FRAME rows. -/

namespace Sys2Proof.Machine

/-- DECODE ends in one of three ways (R156). -/
theorem decodeBuffer_cases (b : Memory) (s : State) :
    (markersBad b = true ∧ decodeBuffer b s = absorb .malformedFrame s) ∨
    (markersBad b = false ∧ failsafeBoth b = true ∧ decodeBuffer b s = absorb .signalLoss s) ∨
    (markersBad b = false ∧ failsafeBoth b = false ∧ decodeBuffer b s = publish b s) := by
  unfold decodeBuffer
  cases h1 : markersBad b <;> cases h2 : failsafeBoth b <;> simp

/-- The decoder's frame: what DECODE never writes (R150). -/
theorem decodeBuffer_frame (b : Memory) (s : State) :
    (decodeBuffer b s).buf = s.buf ∧ (decodeBuffer b s).acc = s.acc ∧
    (decodeBuffer b s).lastByteTime = s.lastByteTime ∧ (decodeBuffer b s).locked = s.locked ∧
    (decodeBuffer b s).phase = s.phase ∧ (decodeBuffer b s).nowLatch = s.nowLatch ∧
    (decodeBuffer b s).value = s.value ∧ (decodeBuffer b s).pending = s.pending ∧
    (decodeBuffer b s).nowIn = s.nowIn ∧ (decodeBuffer b s).src = s.src ∧
    (decodeBuffer b s).srcGrant = s.srcGrant := by
  rcases decodeBuffer_cases b s with ⟨_, h⟩ | ⟨_, _, h⟩ | ⟨_, _, h⟩ <;> rw [h] <;> simp

/-- The marker check reads the frame word's first and last byte (R151). -/
theorem markersBad_eq (b : Memory) :
    markersBad b = true ↔ frameStart (frameWord b) ≠ Config.startMark ∨ frameEnd (frameWord b) ≠ Config.endMark := by
  have h0 := frameWord_byte b 0 (by omega)
  have h24 := frameWord_byte b 24 (by omega)
  simp only [Nat.mul_zero, Nat.reduceMul] at h0 h24
  simp [markersBad, frameStart, frameEnd, h0, h24]

/-- The failsafe check reads bits 186 and 187 of the frame word (R153). -/
theorem failsafeBoth_eq (b : Memory) :
    failsafeBoth b = (frameSiglost (frameWord b) && frameFailsafe (frameWord b)) := by
  have h2 := frameWord_bit b 23 2 (by omega) (by omega)
  have h3 := frameWord_bit b 23 3 (by omega) (by omega)
  simp only [Nat.reduceMul, Nat.reduceAdd] at h2 h3
  rw [failsafeBoth, frameSiglost, frameFailsafe, h2, h3]

/-- SAMPLE and GAPCHK, by fields. -/
theorem pollGated_cases (s : State) :
    (gapExpired (sample s) = true ∧ pollGated s = absorb .frameTimeout (sample s)) ∨
    (gapExpired (sample s) = false ∧ pollGated s = sample s) := by
  unfold pollGated gapCheck
  cases h : gapExpired (sample s) <;> simp

/-- The count before the read is within the frame, so what INTAKE reads fits (R66, R134). -/
theorem pollBytes_fits (s : State) : (pollBytes s).length ≤ 25 - (pollGated s).acc.toNat := by
  simp only [pollBytes, srcAnswer, requestSize, List.length_take, Config.frameLen]
  omega

/-- The count after INTAKE of at least one byte (R134): at most 25. -/
theorem toNat_pollFilled_acc (s : State) (h : pollBytes s ≠ []) :
    (pollFilled s).acc.toNat = (pollGated s).acc.toNat + (pollBytes s).length ∧ (pollFilled s).acc.toNat ≤ 25 := by
  have h1 := pollBytes_fits s
  have h2 : 0 < (pollBytes s).length := List.length_pos_iff.mpr h
  simp only [pollFilled, intake_acc, BitVec.toNat_ofNat]
  omega

/-- POLL's three exit paths (R112): everything a POLL can do. -/
theorem execPoll_cases (s : State) :
    (pollBytes s = [] ∧ execPoll s = .next (updateLock (pollGated s))) ∨
    (pollBytes s ≠ [] ∧ (pollFilled s).acc.toNat < 25 ∧ execPoll s = .next (updateLock (pollFilled s))) ∨
    (pollBytes s ≠ [] ∧ (pollFilled s).acc = 25 ∧
      execPoll s = .next (updateLock (releaseBuffer (decodeBuffer (pollFilled s).buf (pollFilled s))))) := by
  by_cases h : pollBytes s = []
  · left; exact ⟨h, by rw [execPoll, if_pos h]; rfl⟩
  · right
    have hle := (toNat_pollFilled_acc s h).2
    by_cases h2 : (pollFilled s).acc.toNat < 25
    · left; exact ⟨h, h2, by rw [execPoll, if_neg h, if_pos h2]⟩
    · right
      refine ⟨h, ?_, by rw [execPoll, if_neg h, if_neg h2, dispatch]⟩
      apply BitVec.eq_of_toNat_eq
      show _ = 25
      omega

/-- POLL always answers a next state (R110: "Every command terminates"). -/
theorem execPoll_next (s : State) : ∃ t, execPoll s = .next t := by
  rcases execPoll_cases s with ⟨_, h⟩ | ⟨_, _, h⟩ | ⟨_, _, h⟩ <;> exact ⟨_, h⟩

/-- POLL is `execPoll`. -/
theorem exec_poll (s : State) : exec .poll s = execPoll s := rfl

/-- What the state after a POLL is, one case for each exit path. -/
theorem eq_of_execPoll {s t : State} (h : execPoll s = .next t) :
    (pollBytes s = [] ∧ t = updateLock (pollGated s)) ∨
    (pollBytes s ≠ [] ∧ (pollFilled s).acc.toNat < 25 ∧ t = updateLock (pollFilled s)) ∨
    (pollBytes s ≠ [] ∧ (pollFilled s).acc = 25 ∧
      t = updateLock (releaseBuffer (decodeBuffer (pollFilled s).buf (pollFilled s)))) := by
  rcases execPoll_cases s with ⟨h1, e⟩ | ⟨h1, h2, e⟩ | ⟨h1, h2, e⟩
  · exact .inl ⟨h1, Host.Outcome.next.inj (h.symm.trans e)⟩
  · exact .inr (.inl ⟨h1, h2, Host.Outcome.next.inj (h.symm.trans e)⟩)
  · exact .inr (.inr ⟨h1, h2, Host.Outcome.next.inj (h.symm.trans e)⟩)

/-- After a VALID frame the lock evaluation gives true: the elapsed time is 0 (R116 item 5). -/
theorem lockEval_publish (b : Memory) (s : State) : lockEval (publish b s) = true := by
  simp [lockEval, publish, emit, writeChannels, stamp, tsub]

/-- The FRAME row of a buffer's word does what DECODE does on that buffer (R87, R150). -/
theorem exec_decodeFrame (b : Memory) (s : State) :
    exec (decodeFrame (frameWord b)) s = .next (decodeBuffer b s) := by
  have hb := SameBytes.of_bufferOf b
  have hw := frameWordOf_fields (frameWord b)
  unfold decodeFrame
  split
  · next h =>
    have := (markersBad_eq b).mpr h
    simp [exec, execFrameCorrupt, decodeBuffer, this]
  · next h =>
    have hm : markersBad b = false := by
      rw [Bool.eq_false_iff]; exact fun hc => h ((markersBad_eq b).mp hc)
    simp only [not_or, ne_eq, not_not] at h
    rw [h.1, h.2] at hw
    have hf := failsafeBoth_eq b
    split <;> next h1 h2 =>
      simp only [h1, h2] at hw hf
      simp only [exec, execFrameSigloss, execFrameValid, execFrameValidSl, execFrameValidFs, decodeBuffer, hm, hf, hw]
      simp [publish_congr hb]

end Sys2Proof.Machine
end

