-- ==== Sys2Proof/Laws/Step.lean ====
section
/-! SUPPORT. What a step can do, said once, and the decoder's answers. -/

namespace Sys2Proof

/-- The four command words (Table R82). -/
theorem decodeCmd_cases (w : CmdWord) :
    (w = 0b00 ∧ decodeCmd w = .nop) ∨ (w = 0b01 ∧ decodeCmd w = .poll) ∨
    (w = 0b10 ∧ decodeCmd w = .reinit) ∨ (w = 0b11 ∧ decodeCmd w = .rsvd) := by
  revert w; decide

/-- Packing undoes unpacking (R89). -/
theorem packPick_unpackPick (w : PickWord) : packPick (unpackPick w) = w := by
  apply BitVec.eq_of_getLsbD_eq
  intro i hi
  have hi : i < 20 := hi
  simp only [packPick, unpackPick, BitVec.getLsbD_append, BitVec.getLsbD_extractLsb']
  split
  · simp_all
  · split
    · next h1 h2 => simp [h2, show 4 + (i - 4) = i by omega]
    · split
      · next h1 h2 h3 => simp [h3, show 12 + (i - 4 - 8) = i by omega]
      · next h1 h2 h3 => simp [show i - 4 - 8 - 3 < 5 by omega, show 15 + (i - 4 - 8 - 3) = i by omega]

/-- Unpacking undoes packing (R89). -/
theorem unpackPick_packPick (e : PickEntry) : unpackPick (packPick e) = e := by
  cases e with | mk o r m l =>
  simp only [unpackPick, packPick, PickEntry.mk.injEq]
  refine ⟨?_, ?_, ?_, ?_⟩ <;>
  · apply BitVec.eq_of_getLsbD_eq
    intro i hi
    simp only [BitVec.getLsbD_append, BitVec.getLsbD_extractLsb']
    try simp [hi, show ¬ 15 + i < 4 by omega, show ¬ 15 + i - 4 < 8 by omega, show ¬ 15 + i - 4 - 8 < 3 by omega,
      show 15 + i - 4 - 8 - 3 = i by omega, show ¬ 12 + i < 4 by omega, show ¬ 12 + i - 4 < 8 by omega,
      show 12 + i - 4 - 8 = i by omega, show ¬ 4 + i < 4 by omega]

/-- The slot of a word that one slot alone holds does hold it. -/
theorem romWord_of_uniqueSlot {w : PickWord} {k : Fin 18} {j : Fin 3} (h : uniqueSlot w = some (k, j)) :
    romWord k j = w := by
  unfold uniqueSlot at h
  split at h
  · next q hq =>
    injection h with h
    have hm : (k, j) ∈ romSlots.filter fun s => romWord s.1 s.2 == w := by rw [hq, h]; exact List.mem_singleton_self _
    exact beq_iff_eq.mp (List.mem_filter.mp hm).2
  · cases h

namespace Machine

/-- The row of a ROM slot ORs the piece of that slot's entry into `value` (R172, R174). -/
theorem exec_romInstr (k : Fin 18) (j : Fin 3) (s : State) :
    exec (romInstr k j) s = .next (accumulate (romEntry k j) s) := by
  fin_cases k <;> fin_cases j <;> rfl

/-- The generic PICK row (R172, R90). -/
theorem exec_pick (e : PickEntry) (s : State) :
    exec (.pick e) s =
      if e.wf then .next (accumulate e s) else .refused (.reservedEncoding (.pickReserved (packPick e))) := rfl

/-- Everything a step that goes on can have done. -/
theorem step_cases {s t : State} (h : step s = .next t) :
    (∃ n rest, s.pending = .rst n :: rest ∧ t = hardReset n { s with pending := rest }) ∨
    (s.phase = .idle ∧ s.pending = [] ∧ t = lowerReport s) ∨
    (∃ r rest, s.phase = .idle ∧ s.pending = .command r :: rest ∧
      exec (decodeCmd r.cmd) (accept r { lowerReport s with pending := rest }) = .next t) ∨
    (s.phase = .dispatch ∧
      t = { updateLock (releaseBuffer (decodeBuffer s.buf (lowerReport s))) with phase := .idle }) ∨
    (∃ e : PickEntry, e.wf = true ∧ s.phase ≠ .idle ∧ s.phase ≠ .dispatch ∧
      t = { accumulate e (lowerReport s) with phase := .idle }) := by
  unfold step fetch at h
  split at h
  · next heq =>
    split at heq
    · next n rest hp =>
      injection heq with heq; injection h with h
      exact .inl ⟨n, rest, hp, by rw [← h, ← heq]⟩
    · next hrst =>
      unfold fetchPhase at heq
      split at heq
      · next hph =>
        split at heq
        · next r rest hp => simp [fetchedOf, decode] at heq
        · next hcmd =>
          injection heq with heq; injection h with h
          refine .inr (.inl ⟨hph, ?_, by rw [← h, ← heq]⟩)
          cases hp : s.pending with
          | nil => rfl
          | cons a rest =>
            cases a with
            | command r => exact absurd hp (hcmd r rest)
            | rst n => exact absurd hp (hrst n rest)
      · simp [fetchedOf, decode] at heq
      · simp [fetchedOf, decode] at heq
      · simp only [fetchedOf, decode] at heq; split at heq <;> cases heq
  · next i s' heq =>
    split at heq
    · cases heq
    · unfold fetchPhase at heq
      split at heq
      · next hph =>
        split at heq
        · next r rest hp =>
          simp only [fetchedOf, decode] at heq
          injection heq with h1 h2
          subst h1 h2
          refine .inr (.inr (.inl ⟨r, rest, hph, hp, ?_⟩))
          rw [show s.phase = Phase.idle from hph] at h
          cases he : exec (decodeCmd r.cmd) (accept r { lowerReport s with pending := rest }) with
          | next u => rw [he] at h; exact h
          | fault r => rw [he] at h; cases h
          | refused r => rw [he] at h; cases h
        · cases heq
      · next hph =>
        simp only [fetchedOf, decode] at heq
        injection heq with h1 h2
        subst h1 h2
        rw [exec_decodeFrame, show s.phase = Phase.dispatch from hph] at h
        simp only [closeOutcome, close] at h
        injection h with h
        exact .inr (.inr (.inr (.inl ⟨hph, h.symm⟩)))
      · next k j hph =>
        simp only [fetchedOf, decode, if_true] at heq
        injection heq with h1 h2
        subst h1 h2
        have hph' : s.phase = Phase.extract k j := hph
        rw [exec_romInstr, hph'] at h
        simp only [closeOutcome, close] at h
        injection h with h
        exact .inr (.inr (.inr (.inr ⟨romEntry k j, romEntry_wf k j, by simp [hph'], by simp [hph'], h.symm⟩)))
      · next w hph =>
        have hph' : s.phase = Phase.pickWord w := hph
        by_cases hw : (unpackPick w).wf = true
        · simp only [fetchedOf, decode, hw, if_true] at heq
          injection heq with h1 h2
          subst h1 h2
          rw [exec_pick, if_pos hw, hph'] at h
          simp only [closeOutcome, close] at h
          injection h with h
          exact .inr (.inr (.inr (.inr ⟨unpackPick w, hw, by simp [hph'], by simp [hph'], h.symm⟩)))
        · rw [decode, if_neg hw] at heq; cases heq
  · cases h

end Machine

end Sys2Proof
end

