-- ==== Sys2Proof/Laws/Trace.lean ====
section
/-! SUPPORT. The test encoder of 95_test_vectors section 2: where each raw channel's bits stand in the number it builds. -/

namespace Sys2Proof.Machine

/-- Bit `i` of raw channel `k` is bit `11k + i` of the packed channel field (R65). -/
theorem testBit_packRaw (rs : List (BitVec 11)) (k i : Nat) (hk : k < rs.length) (hi : i < 11) :
    (packRaw rs).testBit (11 * k + i) = rs[k].getLsbD i := by
  induction rs generalizing k with
  | nil => simp at hk
  | cons r rs ih =>
    rw [packRaw, Nat.add_comm r.toNat, Nat.testBit_two_pow_mul_add _ r.isLt]
    cases k with
    | zero => simp [hi, BitVec.testBit_toNat]
    | succ k =>
      rw [if_neg (by omega), show 11 * (k + 1) + i - 11 = 11 * k + i by omega]
      exact ih k (by simpa using hk)

/-- The packed channel field of `n` channels has `11n` bits. -/
theorem packRaw_lt (rs : List (BitVec 11)) : packRaw rs < 2 ^ (11 * rs.length) := by
  induction rs with
  | nil => simp [packRaw]
  | cons r rs ih =>
    have hr := r.isLt
    rw [packRaw, List.length_cons, Nat.mul_add, Nat.pow_add, Nat.mul_one]
    omega

end Sys2Proof.Machine
end

