-- ==== Sys2Proof/Tests/Slice0.lean ====
section
/-! SUPPORT. Tests: ill-formed terms, words written out from the spec's encodings, vectors of 95_test_vectors.md (the V and
S numbers) and examples of the rules, and a witness for every statement that has hypotheses. The expected values are the
spec's. -/

namespace Sys2Proof.Tests

open Sys2Proof Sys2Proof.Machine Sys2Proof.Rules

/-! ### Helpers -/

/-- The next state, if there is one. -/
def nextOf : Host.Outcome State Fault Refusal → Option State
  | .next s => some s
  | .fault _ => none
  | .refused _ => none

/-- A state in which a POLL at time `t` is answered with `rx`. -/
def waiting (s : State) (t : Time) (rx : List Byte) : State := { s with nowIn := t, src := rx, srcGrant := rx.length }

/-- `POLL t=<t> rx=[<rx>]` (R93). -/
def polled (s : State) (t : Time) (rx : List Byte) : Option State := nextOf (exec .poll (waiting s t rx))

/-- A buffer that holds a frame, `buf[0]` first. -/
def bufOf (bs : List Byte) : Memory := (List.range 25).zip bs

/-- Frame G of 95 section 2. -/
def frameG : List Byte := [0x0F, 0x00, 0x04] ++ List.replicate 22 0x00

/-- Frame Gbad. -/
def frameGbad : List Byte := [0x0F, 0x00, 0x04] ++ List.replicate 21 0x00 ++ [0x01]

/-- Frame B. -/
def frameB : List Byte :=
  [0x0F, 0xAC, 0x00, 0xDF, 0xC4, 0xC1, 0x07, 0x40, 0x00, 0xFC, 0x3F, 0x00, 0xE0, 0x03, 0x1F, 0xF8, 0xC0, 0x07, 0x3E,
    0xF0, 0x81, 0x0F, 0x7C, 0x01, 0x00]

/-- The frame of V36. -/
def frame36 : List Byte :=
  [0x0F, 0xA5, 0x4D, 0xCA, 0x18, 0x25, 0x30, 0xBB, 0x1D, 0x6D, 0x13, 0x2C, 0xDE, 0xD6, 0x23, 0x7B, 0x2E, 0xD9, 0x1E,
    0x3F, 0x72, 0x1F, 0xCB, 0x00, 0x00]

/-- `FRAME25([2047, 0 x15], flags, start, end)` (95 section 3.2). -/
def frame2047 (flags start stop : Byte) : List Byte :=
  [start, 0xFF, 0x07] ++ List.replicate 20 0x00 ++ [flags, stop]

/-- The channel registers with `v` in channel 0, `d` and `e` in the digital channels, 998 elsewhere. -/
def channels (v d e : ChannelValue) : Vector ChannelValue 18 :=
  #v[v, 998, 998, 998, 998, 998, 998, 998, 998, 998, 998, 998, 998, 998, 998, 998, d, e]

/-- The common state before V10 to V26: reset, then `POLL t=1000 rx=[G]`. -/
def afterG : State :=
  { State.reset with
    buf := bufOf frameG, lastByteTime := 1000, lastGoodTime := 1000, goodValid := true, ch := channels 1510 998 998,
    chCount := 18, frameTs := 1000, locked := true }

/-- What a vector of section 3.2 lists: count, `signal_lost`, channels, `frame_ts`, drops, pulse. -/
def record (s : State) : ChannelCount × Bool × Vector ChannelValue 18 × Time × DropCount × Bool :=
  (s.chCount, s.signalLost, s.ch, s.frameTs, s.dropcnt, s.reportDue)

/-- A frame word as R88 writes it: end, flags byte, channel field, start. -/
def frameBits (stop flags : BitVec 8) (chfield : BitVec 176) (start : BitVec 8) : BitVec 200 :=
  stop ++ flags ++ chfield ++ start

/-! ### Well-formedness: what the check refuses -/

theorem test_wf_pick_offset : (Instr.pick ⟨23, 0, 0x01, 0⟩).wf = false ∧ (Instr.pick ⟨22, 0, 0x01, 0⟩).wf = true := by
  decide

theorem test_wf_pick_left_shift : (Instr.pick ⟨0, 0, 0x00, 11⟩).wf = false ∧ (Instr.pick ⟨0, 0, 0x01, 10⟩).wf = true := by
  decide

theorem test_wf_pick_wide_piece : (Instr.pick ⟨0, 0, 0xFF, 4⟩).wf = false ∧ (Instr.pick ⟨0, 0, 0xFF, 3⟩).wf = true := by
  decide

theorem test_wf_corrupt_markers :
    (Instr.frameCorrupt 0x0F 0x00 false false ⟨0, false, false, 0⟩).wf = false ∧
    (Instr.frameCorrupt 0x8F 0x00 false false ⟨0, false, false, 0⟩).wf = true ∧
    (Instr.frameCorrupt 0x0F 0x04 true true ⟨0, false, false, 0⟩).wf = true := by decide

/-! ### Decoding: words written out from the spec -/

/-- Table R82. -/
theorem test_decode_cmd :
    decode (.cmd 0b00) = .ok .nop ∧ decode (.cmd 0b01) = .ok .poll ∧ decode (.cmd 0b10) = .ok .reinit ∧
    decode (.cmd 0b11) = .ok .rsvd := by decide

/-- The pattern of R88: end, unused bits, failsafe, siglost, d18, d17, channel field, start. -/
theorem test_decode_frame_valid :
    decode (.frame (frameBits 0b00000000 0b00000010 0x5A5 0b00001111)) =
      .ok (.frameValid ⟨0x5A5, false, true, 0⟩) := by decide

theorem test_decode_frame_valid_sl :
    decode (.frame (frameBits 0b00000000 0b11110101 0x5A5 0b00001111)) =
      .ok (.frameValidSl ⟨0x5A5, true, false, 0xF⟩) := by decide

theorem test_decode_frame_valid_fs :
    decode (.frame (frameBits 0b00000000 0b10001000 0x5A5 0b00001111)) =
      .ok (.frameValidFs ⟨0x5A5, false, false, 8⟩) := by decide

theorem test_decode_frame_sigloss :
    decode (.frame (frameBits 0b00000000 0b00011101 0x5A5 0b00001111)) =
      .ok (.frameSigloss ⟨0x5A5, true, false, 1⟩) := by decide

/-- The flags of a frame with a bad marker do not matter (R87, V24). -/
theorem test_decode_frame_corrupt :
    decode (.frame (frameBits 0b00000100 0b00001100 0x5A5 0b00001111)) =
      .ok (.frameCorrupt 0x0F 0x04 true true ⟨0x5A5, false, false, 0⟩) := by decide

/-- The generic pattern `ooooorrrmmmmmmmmllll` (R89), at offset 22, and two reserved words (R90). -/
theorem test_decode_pick :
    decode (.pickWord 0b10110011000011110101) = .ok (.pick ⟨22, 3, 0x0F, 5⟩) ∧
    decode (.pickWord 0b10111000000000010000) = .error (.pickReserved 0b10111000000000010000) ∧
    decode (.pickWord 0b00000000000000011011) = .error (.pickReserved 0b00000000000000011011) := by decide

/-- The ROM words of rows 0 to 2, bit 19 first (R92, Table R174). -/
theorem test_decode_rom_rows_0_2 :
    decode (.romSlot 0 0 0b00000000111111110000) = .ok .pickC0E0 ∧
    decode (.romSlot 0 1 0b00001000000001111000) = .ok .pickC0E1 ∧
    decode (.romSlot 0 2 0b00000000000000000000) = .ok .pickC0E2 ∧
    decode (.romSlot 1 0 0b00001011000111110000) = .ok .pickC1E0 ∧
    decode (.romSlot 1 1 0b00010000001111110101) = .ok .pickC1E1 ∧
    decode (.romSlot 1 2 0b00000000000000000000) = .ok .pickC1E2 ∧
    decode (.romSlot 2 0 0b00010110000000110000) = .ok .pickC2E0 ∧
    decode (.romSlot 2 1 0b00011000111111110010) = .ok .pickC2E1 ∧
    decode (.romSlot 2 2 0b00100000000000011010) = .ok .pickC2E2 := by decide

/-- The ROM words of rows 3 to 5, bit 19 first (R92, Table R174). -/
theorem test_decode_rom_rows_3_5 :
    decode (.romSlot 3 0 0b00100001011111110000) = .ok .pickC3E0 ∧
    decode (.romSlot 3 1 0b00101000000011110111) = .ok .pickC3E1 ∧
    decode (.romSlot 3 2 0b00000000000000000000) = .ok .pickC3E2 ∧
    decode (.romSlot 4 0 0b00101100000011110000) = .ok .pickC4E0 ∧
    decode (.romSlot 4 1 0b00110000011111110100) = .ok .pickC4E1 ∧
    decode (.romSlot 4 2 0b00000000000000000000) = .ok .pickC4E2 ∧
    decode (.romSlot 5 0 0b00110111000000010000) = .ok .pickC5E0 ∧
    decode (.romSlot 5 1 0b00111000111111110001) = .ok .pickC5E1 ∧
    decode (.romSlot 5 2 0b01000000000000111001) = .ok .pickC5E2 := by decide

/-- The ROM words of rows 6 to 8, bit 19 first (R92, Table R174). -/
theorem test_decode_rom_rows_6_8 :
    decode (.romSlot 6 0 0b01000010001111110000) = .ok .pickC6E0 ∧
    decode (.romSlot 6 1 0b01001000000111110110) = .ok .pickC6E1 ∧
    decode (.romSlot 6 2 0b00000000000000000000) = .ok .pickC6E2 ∧
    decode (.romSlot 7 0 0b01001101000001110000) = .ok .pickC7E0 ∧
    decode (.romSlot 7 1 0b01010000111111110011) = .ok .pickC7E1 ∧
    decode (.romSlot 7 2 0b00000000000000000000) = .ok .pickC7E2 ∧
    decode (.romSlot 8 0 0b01011000111111110000) = .ok .pickC8E0 ∧
    decode (.romSlot 8 1 0b01100000000001111000) = .ok .pickC8E1 ∧
    decode (.romSlot 8 2 0b00000000000000000000) = .ok .pickC8E2 := by decide

/-- The ROM words of rows 9 to 11, bit 19 first (R92, Table R174). -/
theorem test_decode_rom_rows_9_11 :
    decode (.romSlot 9 0 0b01100011000111110000) = .ok .pickC9E0 ∧
    decode (.romSlot 9 1 0b01101000001111110101) = .ok .pickC9E1 ∧
    decode (.romSlot 9 2 0b00000000000000000000) = .ok .pickC9E2 ∧
    decode (.romSlot 10 0 0b01101110000000110000) = .ok .pickC10E0 ∧
    decode (.romSlot 10 1 0b01110000111111110010) = .ok .pickC10E1 ∧
    decode (.romSlot 10 2 0b01111000000000011010) = .ok .pickC10E2 ∧
    decode (.romSlot 11 0 0b01111001011111110000) = .ok .pickC11E0 ∧
    decode (.romSlot 11 1 0b10000000000011110111) = .ok .pickC11E1 ∧
    decode (.romSlot 11 2 0b00000000000000000000) = .ok .pickC11E2 := by decide

/-- The ROM words of rows 12 to 14, bit 19 first (R92, Table R174). -/
theorem test_decode_rom_rows_12_14 :
    decode (.romSlot 12 0 0b10000100000011110000) = .ok .pickC12E0 ∧
    decode (.romSlot 12 1 0b10001000011111110100) = .ok .pickC12E1 ∧
    decode (.romSlot 12 2 0b00000000000000000000) = .ok .pickC12E2 ∧
    decode (.romSlot 13 0 0b10001111000000010000) = .ok .pickC13E0 ∧
    decode (.romSlot 13 1 0b10010000111111110001) = .ok .pickC13E1 ∧
    decode (.romSlot 13 2 0b10011000000000111001) = .ok .pickC13E2 ∧
    decode (.romSlot 14 0 0b10011010001111110000) = .ok .pickC14E0 ∧
    decode (.romSlot 14 1 0b10100000000111110110) = .ok .pickC14E1 ∧
    decode (.romSlot 14 2 0b00000000000000000000) = .ok .pickC14E2 := by decide

/-- The ROM words of rows 15 to 17, bit 19 first (R92, Table R174). -/
theorem test_decode_rom_rows_15_17 :
    decode (.romSlot 15 0 0b10100101000001110000) = .ok .pickC15E0 ∧
    decode (.romSlot 15 1 0b10101000111111110011) = .ok .pickC15E1 ∧
    decode (.romSlot 15 2 0b00000000000000000000) = .ok .pickC15E2 ∧
    decode (.romSlot 16 0 0b00000000000000000000) = .ok .pickC16E0 ∧
    decode (.romSlot 16 1 0b00000000000000000000) = .ok .pickC16E1 ∧
    decode (.romSlot 16 2 0b00000000000000000000) = .ok .pickC16E2 ∧
    decode (.romSlot 17 0 0b00000000000000000000) = .ok .pickC17E0 ∧
    decode (.romSlot 17 1 0b00000000000000000000) = .ok .pickC17E1 ∧
    decode (.romSlot 17 2 0b00000000000000000000) = .ok .pickC17E2 := by decide

/-- A ROM word in a slot that does not hold it (R33). -/
theorem test_decode_rom_mismatch : decode (.romSlot 0 1 0x00FF0) = .error (.romWordMismatch 0 1) := by decide

/-- Rows as the opcode table numbers them. -/
theorem test_decode_table_word :
    decodeTableWord 8 1 = some .poll ∧ decodeTableWord 8 4 = none ∧ decodeTableWord 24 0x60078 = some .pickC8E1 ∧
    decodeTableWord 24 0x00000 = some (.pick ⟨0, 0, 0, 0⟩) ∧ decodeTableWord 24 0xB8010 = none ∧
    decodeTableWord 200 0x000C000000000000000000000000000000000000000000000F =
      some (.frameSigloss ⟨0, false, false, 0⟩) := by decide

/-- The bytes of a frame, the first least significant (R85). -/
theorem test_decode_bytes_frame :
    (decodeBytes .frame frameGbad).toOption = some (.frameCorrupt 0x0F 0x01 false false ⟨0x400, false, false, 0⟩) := by
  decide

/-! ### Commands (95 section 3.1) -/

/-- The state of V01. -/
def stateV01 : State :=
  { afterG with acc := 7, lastByteTime := 15000, dropcnt := 3 }

theorem test_nop_V01 : nextOf (exec .nop stateV01) = some stateV01 := by decide

theorem test_rsvd_V03 : nextOf (exec .rsvd stateV01) = some stateV01 := by decide

theorem test_reinit_V02 :
    nextOf (exec .reinit stateV01) = some { State.reset with buf := bufOf frameG } := by decide

/-- The example of R112. -/
theorem test_poll_first_byte :
    (polled State.reset 1000 [0x0F]).map (fun t => (t.acc, t.lastByteTime, t.locked, Memory.read t.buf 0)) =
      some (1, 1000, false, 0x0F) := by decide

/-- V45: a timeout drop and a VALID frame in one POLL; the stale bytes influence nothing. -/
theorem test_poll_timeout_and_valid_V45 :
    (polled { State.reset with buf := [(0, 0x0F), (1, 0x01), (2, 0x02)], acc := 3, lastByteTime := 1000 } 9000 frameG).map
      record = some (18, false, channels 1510 998 998, 9000, 1, true) := by decide

/-! ### Frames (95 sections 3.2, 3.3) -/

theorem test_frame_valid_V14 :
    (polled afterG 10000 (frame2047 0x03 0x0F 0x00)).map record =
      some (18, false, channels 2021 1998 1998, 10000, 0, true) := by decide

theorem test_frame_valid_sl_V11 :
    (polled afterG 10000 (frame2047 0x04 0x0F 0x00)).map record =
      some (18, false, channels 2021 998 998, 10000, 0, true) := by decide

theorem test_frame_valid_fs_V12 :
    (polled afterG 10000 (frame2047 0x08 0x0F 0x00)).map record =
      some (18, false, channels 2021 998 998, 10000, 0, true) := by decide

theorem test_frame_sigloss_V1B :
    (polled afterG 10000 (frame2047 0xFF 0x0F 0x00)).map record =
      some (0, true, channels 1510 998 998, 1000, 0, false) := by decide

theorem test_frame_corrupt_V24 :
    (polled afterG 10000 (frame2047 0x0C 0x0F 0x04)).map record =
      some (18, false, channels 1510 998 998, 1000, 1, false) := by decide

/-- V49: the drop counter wraps. -/
theorem test_drop_counter_wraps_V49 :
    (polled { State.reset with dropcnt := 0xFFFFFFFF } 1000 frameGbad).map (·.dropcnt) = some 0 := by decide

/-- V36: every channel of an arbitrary frame. -/
theorem test_channels_V36 :
    (polled State.reset 1000 frame36).map (·.ch) =
      some #v[1720, 1162, 1559, 1007, 1471, 1283, 1619, 1174, 1877, 1571, 1244, 1585, 1244, 1573, 2004, 1810, 998, 998] :=
  by decide

/-- The decoded values of frame B (95 section 2). -/
theorem test_channels_B :
    (polled State.reset 1000 frameB).map (·.ch) =
      some #v[1084, 1494, 1903, 1494, 1510, 998, 2021, 998, 1494, 1494, 1494, 1494, 1494, 1494, 1494, 1494, 1998, 998] :=
  by decide

/-- FRAME25 of V34. -/
theorem test_frame25_V34 :
    frame25 #v[7, 107, 207, 307, 407, 507, 607, 707, 807, 907, 1007, 1107, 1207, 1307, 1407, 1507] 0x01 0x0F 0x00 =
      [0x0F, 0x07, 0x58, 0xC3, 0x33, 0x66, 0x72, 0x99, 0xFD, 0x7C, 0x69, 0x58, 0x27, 0x5B, 0xDC, 0xFB, 0xA6, 0x78, 0xCB,
        0x8D, 0xFE, 0x75, 0xBC, 0x01, 0x00] := by decide

/-! ### Picks (R172, R173, V36) -/

/-- The example of R172: `{1, 3, 0x1F, 0}` on `buf[2] = 0xA5`. -/
theorem test_pick_example :
    (nextOf (exec (.pick ⟨1, 3, 0x1F, 0⟩) { State.reset with buf := [(2, 0xA5)] })).map (·.value) = some 0x014 := by decide

/-- A pick of mask 0 reads no byte (R172). -/
theorem test_pick_empty :
    (nextOf (exec (.pick ⟨22, 7, 0x00, 10⟩) { State.reset with value := 0x123 })).map (·.value) = some 0x123 := by decide

/-- The example of R173: the three words of channel 2, in order. -/
theorem test_pick_channel_2 :
    (((nextOf (exec .pickC2E0 { State.reset with buf := [(3, 0xC0), (4, 0xFF), (5, 0x01)] })).bind
      fun t => nextOf (exec .pickC2E1 t)).bind fun t => nextOf (exec .pickC2E2 t)).map (·.value) = some 0x7FF := by decide

/-- The pieces of V36, every ROM word: what its instruction ORs into `value`. -/
theorem test_pick_pieces_V36 :
    ((List.finRange 18).map fun k => (List.finRange 3).map fun j =>
      ((nextOf (exec (romInstr k j) { State.reset with buf := bufOf frame36 })).map (·.value)).getD 0) =
      [[0x0A5, 0x500, 0x000],
      [0x009, 0x140, 0x000],
      [0x003, 0x060, 0x400],
      [0x012, 0x000, 0x000],
      [0x003, 0x3B0, 0x000],
      [0x001, 0x03A, 0x200],
      [0x01B, 0x4C0, 0x000],
      [0x000, 0x160, 0x000],
      [0x0DE, 0x600, 0x000],
      [0x01A, 0x460, 0x000],
      [0x000, 0x1EC, 0x000],
      [0x017, 0x480, 0x000],
      [0x00D, 0x1E0, 0x000],
      [0x000, 0x07E, 0x400],
      [0x01C, 0x7C0, 0x000],
      [0x000, 0x658, 0x000],
      [0x000, 0x000, 0x000],
      [0x000, 0x000, 0x000]] := by decide

/-! ### The synchronizer and the lock (95 sections 3.4, 3.5) -/

/-- The state after `POLL t=1000 rx=[0F]`. -/
def oneByte : State := { State.reset with buf := [(0, 0x0F)], acc := 1, lastByteTime := 1000 }

/-- V40, V41: 3000 ticks do not fire the gate, 3001 do, and the byte read lands at `buf[0]`. -/
theorem test_gap_V40_V41 :
    (polled oneByte 4000 [0x55]).map (fun t => (t.acc, t.dropcnt, Memory.read t.buf 0, Memory.read t.buf 1)) =
      some (2, 0, 0x0F, 0x55) ∧
    (polled oneByte 4001 [0x55]).map (fun t => (t.acc, t.dropcnt, t.lastByteTime, Memory.read t.buf 0)) =
      some (1, 1, 4001, 0x55) := by decide

/-- V42: an empty POLL fires the gate and does not refresh `last_byte_time`. -/
theorem test_empty_poll_V42 :
    (polled oneByte 4001 []).map (fun t => (t.acc, t.dropcnt, t.lastByteTime)) = some (0, 1, 1000) := by decide

/-- V48: the request is `25 - acc`; the rest stays in the source. -/
theorem test_request_size_V48 :
    (polled { State.reset with buf := bufOf (frameG.take 24), acc := 24, lastByteTime := 1000 } 1100
      [0x00, 0x0F, 0x00]).map (fun t => (t.frameTs, t.src, t.acc)) = some (1100, [0x0F, 0x00], 0) := by decide

/-- V50: 200000 ticks are locked, 200001 are not. -/
theorem test_lock_V50 :
    (polled afterG 201000 []).map (·.locked) = some true ∧ (polled afterG 201001 []).map (·.locked) = some false := by
  decide

/-- V51: no lock before a VALID frame. -/
theorem test_lock_V51 : (polled State.reset 5 []).map (·.locked) = some false := by decide

/-- V55, V56: elapsed time across a wrap, and with a clock that goes back. -/
theorem test_elapsed_V55_V56 :
    tsub 1000 0xFFFFFFFFFFFFFC18 = 2000 ∧ tsub 9000 10100 = 2 ^ 64 - 1100 := by decide

/-- V61: marker aliasing; a misaligned window is VALID, with wrong channels. -/
theorem test_aliasing_V61 :
    (polled State.reset 1000 ([0x0F] ++ List.replicate 19 0x00 ++ [0x0F] ++ List.replicate 4 0x00)).map
      (fun t => (t.ch[13], t.ch[14], t.ch[12], t.dropcnt, t.reportDue)) = some (1766, 999, 998, 0, true) := by decide

/-! ### Steps -/

/-- The first command after reset, offered at the port. -/
theorem test_step_offered :
    (nextOf (step (State.reset.offer [.poll 1000 frameG]))).map (fun t => (t.ch[0], t.chCount, t.locked, t.reportDue)) =
      some (1510, 18, true, true) := by decide

/-- P3, first line: the source holds more than one frame; the block takes 25 bytes. -/
theorem test_burst_takes_the_request :
    burst 0 1000 (frameG ++ [0x0F, 0x00]) = .poll 1000 frameG ∧ burst 20 1000 frameG = .poll 1000 (frameG.take 5) := by
  decide

/-- FEED gives one byte per POLL (R94). -/
theorem test_feed : feed 1000 120 [0x0F, 0x00] = [.poll 1000 [0x0F], .poll 1120 [0x00]] := by decide

theorem test_step_frame_word :
    (nextOf (step (State.reset.withFetchWord 200 0x0000CB1F723F1ED92E7B23D6DE2C136D1DBB302518CA4DA50F))).map
      (fun t => (t.ch[14], t.chCount, t.locked, t.reportDue, t.acc, t.phase)) =
      some (2004, 18, true, true, 0, .idle) := by decide

theorem test_step_pick_word :
    (nextOf (step { State.reset.withFetchWord 24 0x18FF2 with buf := [(4, 0xFF)] })).map (fun t => (t.value, t.phase)) =
      some (0x3FC, .idle) := by decide

theorem test_step_reset_pin :
    nextOf (step { stateV01 with phase := .dispatch, src := [0x01, 0x02], pending := [.rst 1] }) =
      some { State.reset with buf := bufOf frameG, src := [0x02] } := by decide

theorem test_idle_step_ends_the_pulse :
    nextOf (step { afterG with reportDue := true }) = some afterG := by decide

/-! ### Witnesses: for every statement with hypotheses, states and operands that meet them, at the bounds of its clauses -/

theorem not_takesReset {s : State} (h : s.pending = []) : ¬ takesReset s := by
  rintro ⟨_, _, hp⟩; rw [h] at hp; cases hp

theorem witness_DecodeAfterEncode :
    (Instr.pick ⟨22, 7, 0x01, 10⟩).wf = true ∧ (Instr.pickC17E2).wf = true ∧ Instr.poll.wf = true ∧
    (Instr.frameCorrupt 0x0F 0x80 true true ⟨0x5A5, true, false, 0xF⟩).wf = true := by decide

theorem witness_EncodeAfterDecode :
    decode (.pickWord 0xB7010) = .ok (.pick ⟨22, 7, 0x01, 0⟩) ∧ decode (.cmd 0b11) = .ok .rsvd ∧
    decode (.romSlot 2 2 0x2001A) = .ok .pickC2E2 ∧
    decode (.frame (frameBits 0x00 0x0C 0x5A5 0x0F)) = .ok (.frameSigloss ⟨0x5A5, false, false, 0⟩) := by decide

/-- First and last byte, first and last channel. -/
theorem witness_FrameWordLayout :
    (0 < 25 ∧ 24 < 25) ∧ (0 < 16 ∧ 15 < 16) ∧
    Memory.read (bufOf frame36) 24 = 0x00 ∧ (framePayload (frameWord (bufOf frame36))).raw 15 = 1624 := by decide

/-- Rows 15 and 16: the last channel row and the first empty row. -/
theorem witness_RomIsGeneratedByLayout : (15 : Fin 18).val < 16 ∧ 16 ≤ (16 : Fin 18).val := by decide

theorem witness_PickTableEqualsChannelField :
    ((15 : Fin 18).val < 16 ∧ rawChannel (bufOf frame36) 15 = 1624) ∧
    (16 ≤ (16 : Fin 18).val ∧ rawChannel (bufOf frame36) 16 = 0) := by decide

/-- The three reasons of a reserved word, each at its bound, and the words just inside. -/
theorem witness_ReservedPickWordsRefused :
    reservedPick (unpackPick 0xB8010) ∧ reservedPick (unpackPick 0x0000B) ∧ reservedPick (unpackPick 0x00FF4) ∧
    ¬ reservedPick (unpackPick 0xB0010) ∧ ¬ reservedPick (unpackPick 0x0001A) ∧ ¬ reservedPick (unpackPick 0x00FF3) ∧
    (({ State.reset with phase := .pickWord 0xB8010 } : State).phase = .pickWord 0xB8010) ∧
    ¬ takesReset { State.reset with phase := .pickWord 0xB8010 } :=
  ⟨by decide, by decide, by decide, by decide, by decide, by decide, rfl, not_takesReset rfl⟩

/-- A reset in the middle of a POLL, and one between commands. -/
theorem witness_HardwareReset :
    ({ stateV01 with phase := .dispatch, pending := [.rst 3] } : State).pending = .rst 3 :: [] ∧
    ({ stateV01 with pending := [.rst 0, .rst 1] } : State).pending = .rst 0 :: [.rst 1] := by decide

theorem witness_PickWordPiece : ¬ reservedPick ⟨22, 7, 0x01, 10⟩ ∧ ¬ reservedPick ⟨0, 0, 0x00, 0⟩ := by decide

/-- Rows 15 and 16, the two clauses. -/
theorem witness_RowOfPicksGivesRawValue :
    ({ State.reset with buf := bufOf frame36 } : State).value = 0 ∧ (15 : Fin 18).val < 16 ∧ ¬ (16 : Fin 18).val < 16 := by
  decide

theorem witness_NormalizationIsHalfPlus998 :
    ((0 : Fin 18).val < min 18 1 ∧ (17 : Fin 18).val < min 18 18) ∧ (0 < 1024 ∧ 1023 < 1024) ∧
    (normChannel 0).toNat = 998 ∧ (normChannel 2047).toNat = 2021 := by decide

/-- MAX_CH 1, 17 and 18; with 17, channel 16 is in the loop and channel 17 is not. -/
theorem witness_ChannelLoopBounds :
    (1 ≤ ({ Config.hw with maxCh := 1 } : Params).maxCh ∧ ({ Config.hw with maxCh := 1 } : Params).maxCh ≤ 18) ∧
    ({ Config.hw with maxCh := 17 } : Params).maxCh = 17 ∧
    (1 ≤ Config.hw.maxCh ∧ Config.hw.maxCh ≤ 18 ∧ Config.hw.maxCh = 18) ∧
    (16 : Fin 18).val < min 18 17 ∧ ¬ (17 : Fin 18).val < min 18 17 := by decide

/-- No bytes: from reset, and with the gate just not fired and just fired. -/
theorem witness_PollReadingNothing :
    bytesRead State.reset = [] ∧ (bytesRead (waiting oneByte 4000 []) = [] ∧ ¬ gateFires (waiting oneByte 4000 [])) ∧
    (bytesRead (waiting oneByte 4001 []) = [] ∧ gateFires (waiting oneByte 4001 [])) := by decide

/-- One byte into an empty buffer, and the 24th byte. -/
theorem witness_PollAccumulating :
    (bytesRead (waiting State.reset 1000 [0x0F]) ≠ [] ∧
      accAtRead (waiting State.reset 1000 [0x0F]) + (bytesRead (waiting State.reset 1000 [0x0F])).length = 1) ∧
    (bytesRead (waiting oneByte 2000 (List.replicate 23 0x00)) ≠ [] ∧
      accAtRead (waiting oneByte 2000 (List.replicate 23 0x00)) +
        (bytesRead (waiting oneByte 2000 (List.replicate 23 0x00))).length = 24) := by decide

/-- The whole frame at once, and the last 24 bytes; a frame of each class. -/
theorem witness_PollCompletingFrame :
    (bytesRead (waiting State.reset 1000 frameG) ≠ [] ∧
      accAtRead (waiting State.reset 1000 frameG) + (bytesRead (waiting State.reset 1000 frameG)).length = 25) ∧
    (bytesRead (waiting oneByte 2000 (frameG.drop 1)) ≠ [] ∧
      accAtRead (waiting oneByte 2000 (frameG.drop 1)) + (bytesRead (waiting oneByte 2000 (frameG.drop 1))).length = 25) ∧
    Memory.read (bufAfterRead (waiting State.reset 1000 frameGbad)) 24 ≠ 0x00 ∧
    Memory.read (bufAfterRead (waiting State.reset 1000 (frame2047 0x0C 0x0F 0x00))) 23 = 0x0C ∧
    Memory.read (bufAfterRead (waiting State.reset 1000 frameG)) 23 = 0x00 := by decide

/-- The same hypotheses. -/
theorem witness_PollRunsTheFrameRow :
    bytesRead (waiting oneByte 2000 (frameG.drop 1)) ≠ [] ∧
    accAtRead (waiting oneByte 2000 (frameG.drop 1)) + (bytesRead (waiting oneByte 2000 (frameG.drop 1))).length = 25 := by
  decide

/-- Below, inside and above the bytes read. -/
theorem witness_PollWritesOnlyTheBytesRead :
    0 < accAtRead (waiting oneByte 2000 [0x00, 0x04]) ∧
    accAtRead (waiting oneByte 2000 [0x00, 0x04]) + (bytesRead (waiting oneByte 2000 [0x00, 0x04])).length ≤ 3 ∧
    1 < (bytesRead (waiting oneByte 2000 [0x00, 0x04])).length := by decide

theorem witness_ExpiredGapDiscardsPrefix :
    gateFires (waiting oneByte 4001 frameG) ∧ ¬ gateFires (waiting oneByte 4000 frameG) ∧
    ¬ gateFires (waiting State.reset 4001 frameG) := by decide

/-- A POLL before any VALID frame, and a POLL that decodes one. -/
theorem witness_EveryPollEvaluatesLock :
    (polled State.reset 5 [0x0F]).map (·.goodValid) = some false ∧
    (polled State.reset 5 frameG).map (·.reportDue) = some true := by decide

/-- A frame in two parts, 1 and 24 bytes, exactly 3000 ticks apart. -/
theorem witness_SplitOfFrameIsInvisible :
    let s : State := { waiting State.reset 1000 frameG with srcGrant := 1 }
    s.acc = 0 ∧ frameG.take 1 ≠ [] ∧ frameG.drop 1 ≠ [] ∧ (frameG.take 1 ++ frameG.drop 1).length = 25 ∧
    s.src = frameG.take 1 ++ frameG.drop 1 ∧ s.srcGrant = (frameG.take 1).length ∧
    (4000 - s.nowIn).toNat ≤ 3000 := by decide

/-- V34, with more bytes behind the frame. -/
theorem witness_EncodedFrameIsRecovered :
    let raw : Vector (BitVec 11) 16 :=
      #v[7, 107, 207, 307, 407, 507, 607, 707, 807, 907, 1007, 1107, 1207, 1307, 1407, 1507]
    let s : State := waiting State.reset 1000 (frame25 raw 0x01 0x0F 0x00 ++ [0x0F])
    ¬ ((0x01 : Byte).getLsbD 2 = true ∧ (0x01 : Byte).getLsbD 3 = true) ∧ s.acc = 0 ∧
    s.src = frame25 raw 0x01 0x0F 0x00 ++ [0x0F] ∧ 25 ≤ s.srcGrant := by decide

/-- A stale buffer that differs above `acc`. -/
theorem witness_StaleBytesHaveNoInfluence :
    oneByte.acc.toNat ≤ 24 ∧
    (∀ i : Nat, i < oneByte.acc.toNat → Memory.find [(0, 0x0F), (7, 0xAA)] i = Memory.find oneByte.buf i) := by decide

theorem witness_inv_reset : Inv State.reset := by constructor <;> decide

/-- A state of the invariant with a partial frame, a source and an offered command. -/
theorem witness_inv_oneByte :
    Inv { waiting oneByte 2000 (frameG.drop 1) with pending := [TraceLine.input (.poll 2000 [])] } := by
  constructor <;> decide

/-- A state of the invariant at DISPATCH. -/
theorem witness_inv_dispatch : Inv { State.reset with buf := bufOf frameG, acc := 25, phase := .dispatch } := by
  constructor <;> decide

/-- Each frame class completed from a one-byte prefix, and a whole frame after the gate dropped the prefix. -/
theorem witness_DecoderReadsWrittenBytes :
    (Inv (waiting oneByte 2000 (frameG.drop 1)) ∧ pollOutcome (waiting oneByte 2000 (frameG.drop 1)) = .valid) ∧
    (Inv (waiting oneByte 2000 ((frame2047 0x0C 0x0F 0x00).drop 1)) ∧
      pollOutcome (waiting oneByte 2000 ((frame2047 0x0C 0x0F 0x00).drop 1)) = .sigloss) ∧
    (Inv (waiting oneByte 2000 ((frame2047 0x00 0x0F 0x01).drop 1)) ∧
      pollOutcome (waiting oneByte 2000 ((frame2047 0x00 0x0F 0x01).drop 1)) = .corrupt) ∧
    (Inv (waiting oneByte 4001 frameG) ∧ pollOutcome (waiting oneByte 4001 frameG) = .valid) :=
  ⟨⟨by constructor <;> decide, by decide⟩, ⟨by constructor <;> decide, by decide⟩, ⟨by constructor <;> decide, by decide⟩,
    by constructor <;> decide, by decide⟩

theorem witness_StepRunsTheOfferedCommand :
    let r : Request := { cmd := 0b01, now := 1000, arrivals := frameG, grant := 25 }
    ({ State.reset with pending := [.command r] } : State).phase = .idle ∧
    ({ State.reset with pending := [.command r] } : State).pending = .command r :: [] ∧
    decode (.cmd r.cmd) = .ok .poll := by decide

/-- A full buffer at DISPATCH. -/
def atDispatch : State := { State.reset with buf := bufOf frameG, acc := 25, phase := .dispatch }

theorem witness_StepRunsTheBufferedFrame :
    ∃ u : State, atDispatch.phase = .dispatch ∧ ¬ takesReset atDispatch ∧
      decode (.frame (frameWord atDispatch.buf)) = .ok (.frameValid ⟨0x400, false, false, 0⟩) ∧
      exec (.frameValid ⟨0x400, false, false, 0⟩) { atDispatch with reportDue := false } = .next u :=
  ⟨_, rfl, not_takesReset rfl, by decide, rfl⟩

/-- A row at EXTRACT. -/
def atExtract : State := { State.reset with buf := bufOf frameG, phase := .extract 0 1 }

/-- A pick word by itself. -/
def atPickWord : State := { State.reset with buf := bufOf frameG, phase := .pickWord 0x08078 }

theorem witness_StepRunsThePickWord :
    (∃ u : State, ¬ takesReset atExtract ∧ atExtract.phase = .extract 0 1 ∧
      exec .pickC0E1 { atExtract with reportDue := false } = .next u ∧
      decode (.romSlot 0 1 (romWord 0 1)) = .ok .pickC0E1) ∧
    (∃ u : State, ¬ takesReset atPickWord ∧ atPickWord.phase = .pickWord 0x08078 ∧
      exec (.pick ⟨1, 0, 0x07, 8⟩) { atPickWord with reportDue := false } = .next u ∧
      decode (.pickWord 0x08078) = .ok (.pick ⟨1, 0, 0x07, 8⟩)) :=
  ⟨⟨_, not_takesReset rfl, rfl, rfl, by decide⟩, ⟨_, not_takesReset rfl, rfl, rfl, by decide⟩⟩

theorem witness_PlacedWordIsTheOneFetched :
    decodeTableWord 8 2 = some .reinit ∧ decodeTableWord 24 0x08078 = some .pickC0E1 ∧
    decodeTableWord 24 0xB7010 = some (.pick ⟨22, 7, 0x01, 0⟩) ∧
    decodeTableWord 200 0x0F = some (.frameValid ⟨0, false, false, 0⟩) := by decide

theorem witness_IdleBlockHoldsItsState : State.reset.phase = .idle ∧ State.reset.pending = [] := by decide

/-- A step that reads one byte: from the invariant to a next state, no pulse, no reset, no REINIT. -/
theorem witness_StepKeepsInvariant :
    ∃ t, step { waiting oneByte 2000 (frameG.drop 1) with pending := [TraceLine.input (.poll 2000 [])] } = .next t :=
  ⟨_, rfl⟩

theorem witness_GoodTimeValidBitChannelsFrameTsOnlyByValidFrame :
    let s : State := State.reset.offer [.poll 1000 [0x0F]]
    ∃ t, step s = .next t ∧ t.reportDue = false ∧ ¬ takesReset s ∧ ¬ takesCommand s 0b10 :=
  ⟨_, rfl, by decide, (fun ⟨_, _, h⟩ => nomatch h), fun ⟨_, _, _, h, hw⟩ => by cases h; revert hw; decide⟩

/-- NOP with the lock on: the step runs no POLL. -/
theorem witness_LockedHeldBetweenPolls :
    let s : State := afterG.offer [.nop]
    ∃ t, step s = .next t ∧ ¬ takesReset s ∧ ¬ takesCommand s 0b01 ∧ ¬ takesCommand s 0b10 ∧ s.phase ≠ .dispatch :=
  ⟨_, rfl, (fun ⟨_, _, h⟩ => nomatch h), (fun ⟨_, _, _, h, hw⟩ => by cases h; revert hw; decide),
    (fun ⟨_, _, _, h, hw⟩ => by cases h; revert hw; decide), by decide⟩

theorem witness_PulseMeansFreshRecord :
    ∃ t, step (State.reset.offer [.poll 1000 frameG]) = .next t ∧ t.reportDue = true := ⟨_, rfl, by decide⟩

/-- P6: two drops in one POLL. -/
theorem witness_DropCounterAdvancesByAtMostTwo :
    let s : State := oneByte.offer [.poll 9000 frameGbad]
    ∃ t, step s = .next t ∧ ¬ takesReset s ∧ ¬ takesCommand s 0b10 ∧ t.dropcnt = s.dropcnt + 2 :=
  ⟨_, rfl, (fun ⟨_, _, h⟩ => nomatch h), (fun ⟨_, _, _, h, hw⟩ => by cases h; revert hw; decide), by decide⟩

/-- Across a wrap of the clock, and the least clock that looks old. -/
theorem witness_ElapsedTimeIsWrapSafe :
    (2 ^ 64 - 1000 ≤ 2 ^ 64 + 1000 ∧ 2 ^ 64 + 1000 < 2 ^ 64 - 1000 + 2 ^ 64) ∧
    ((0 : Time).toNat < (0xFFFFFFFFFFFCF2BF : Time).toNat ∧
      (0xFFFFFFFFFFFCF2BF : Time).toNat - (0 : Time).toNat < 2 ^ 64 - 200000) := by decide

end Sys2Proof.Tests
end

section
/-! The parameters of Table R6 (spec/00_scope.md): the widths the arithmetic on times and drops wraps by. -/

namespace Sys2Proof.Machine

/-- `tsub` wraps by the width Table R6 gives a timestamp (R138). The term `2 ^ TIME_W` keeps the subtraction of natural
numbers from being cut off at 0: `b` is below it. -/
theorem tsub_eq_mod_timeW (a b : Time) :
    tsub a b = (a.toNat + 2 ^ Config.hw.timeW - b.toNat) % 2 ^ Config.hw.timeW := by
  have hb : b.toNat ≤ 2 ^ Config.hw.timeW := (toNat_time_lt b).le
  calc tsub a b = (2 ^ Config.hw.timeW - b.toNat + a.toNat) % 2 ^ Config.hw.timeW := tsub_eq a b
    _ = _ := by rw [Nat.add_comm, Nat.add_sub_assoc hb]

/-- A malformed frame's drop wraps by the width Table R6 gives the counter (R26). -/
theorem absorb_malformedFrame_dropcnt_toNat (s : State) :
    (absorb .malformedFrame s).dropcnt.toNat = (s.dropcnt.toNat + 1) % 2 ^ Config.hw.cntW := by
  rw [absorb_malformedFrame_dropcnt]
  exact BitVec.toNat_add s.dropcnt 1

/-- Settles O47: the values of Table R6 and the two products of ticks are closed facts about `Config.hw`; the wraps are the
two lemmas above. -/
theorem implementationParameters : Obligations.ImplementationParameters := by
  unfold Obligations.ImplementationParameters
  exact ⟨rfl, by decide, by decide, tsub_eq_mod_timeW, absorb_malformedFrame_dropcnt_toNat⟩

end Sys2Proof.Machine
end

section
/-! The buffer during a POLL: what SAMPLE, GAPCHK and INTAKE leave of BUF and `acc`, and which exit path an outcome label
stands for (spec/41_synchronizer.md). -/

namespace Sys2Proof.Machine

variable (s : State)

/-- SAMPLE and GAPCHK do not write BUF (R131). -/
@[simp] theorem pollGated_buf : (pollGated s).buf = s.buf := by
  rcases pollGated_cases s with ⟨_, e⟩ | ⟨_, e⟩ <;> simp [e]

@[simp] theorem pollGated_phase : (pollGated s).phase = s.phase := by
  rcases pollGated_cases s with ⟨_, e⟩ | ⟨_, e⟩ <;> simp [e]

/-- GAPCHK only ever takes bytes away (R131). -/
theorem pollGated_acc_le : (pollGated s).acc.toNat ≤ s.acc.toNat := by
  rcases pollGated_cases s with ⟨_, e⟩ | ⟨_, e⟩ <;> simp [e]

@[simp] theorem pollFilled_buf :
    (pollFilled s).buf = Memory.writeBytes s.buf (pollGated s).acc.toNat (pollBytes s) := by
  simp [pollFilled]

@[simp] theorem pollFilled_phase : (pollFilled s).phase = s.phase := by simp [pollFilled]

/-- The three frame labels of R115 stand for the exit path through DISPATCH. -/
theorem pollFilled_full_of_outcome {s : State}
    (h : pollOutcome s = .valid ∨ pollOutcome s = .sigloss ∨ pollOutcome s = .corrupt) :
    pollBytes s ≠ [] ∧ (pollFilled s).acc = 25 := by
  rcases execPoll_cases s with ⟨hrx, _⟩ | ⟨hrx, hacc, _⟩ | ⟨hrx, hacc, _⟩
  · simp [pollOutcome, hrx] at h
  · simp [pollOutcome, hrx, hacc] at h
  · exact ⟨hrx, hacc⟩

/-! POLL's three exit paths (R133, R135, R136), each by what selects it. -/

theorem execPoll_of_empty {s : State} (hrx : pollBytes s = []) : execPoll s = .next (updateLock (pollGated s)) := by
  rw [execPoll, if_pos hrx, absorb]

theorem execPoll_of_incomplete {s : State} (hrx : pollBytes s ≠ []) (hacc : (pollFilled s).acc.toNat < 25) :
    execPoll s = .next (updateLock (pollFilled s)) := by
  rw [execPoll, if_neg hrx, if_pos hacc]

theorem execPoll_of_full {s : State} (hrx : pollBytes s ≠ []) (hacc : (pollFilled s).acc = 25) :
    execPoll s = .next (updateLock (releaseBuffer (decodeBuffer (pollFilled s).buf (pollFilled s)))) := by
  rw [execPoll, if_neg hrx, if_neg (by rw [hacc]; decide), dispatch]

end Sys2Proof.Machine
end

section
/-! The invariant of R37 (spec/10_state.md section 4): each operation of the machine keeps it, and so does every step. A
lemma below gives `Inv` of the state an operation leaves, taking over the parts that the operation does not touch. -/

namespace Sys2Proof.Machine

variable {s : State}

/-! ### Reset -/

/-- The registers of Table R20 at 0 meet the invariant on any canonical buffer (R113, R240). -/
theorem inv_clearRegisters (hbuf : Memory.wf s.buf) (hph : s.phase ≠ .dispatch) : Inv (clearRegisters s) where
  bufCanonical := hbuf
  fullAtDispatch h := absurd h hph
  accBelowFull _ := by simp
  prefixWritten i hi := by simp at hi
  matrixRange k _ := .inl (by simp)
  digitalRange k _ := .inl (by simp)
  countRange := .inl rfl
  blankBeforeValid _ := ⟨rfl, rfl, rfl, rfl, fun k => by simp⟩
  stampShown h := by simp at h
  lossShown h := by simp at h

theorem inv_hardReset (n : Nat) (hbuf : Memory.wf s.buf) : Inv (hardReset n s) :=
  { inv_clearRegisters (s := { s with phase := .idle }) hbuf (by simp) with }

/-- Settles O40: the reset state is a canonical buffer with every register of Table R20 cleared. -/
theorem resetMeetsInvariant : Obligations.ResetMeetsInvariant := by
  unfold Obligations.ResetMeetsInvariant
  exact inv_clearRegisters (s := State.reset) reset_buf_wf (by simp [State.reset])

/-! ### The decoder -/

/-- A channel register a VALID frame has written, matrix part (R176). -/
theorem publish_matrixRange (b : Memory) (s : State) (k : Fin 18) (hk : k.val < 16) :
    998 ≤ (publish b s).ch[k].toNat ∧ (publish b s).ch[k].toNat ≤ 2021 := by
  have hraw := (rawChannel b k).isLt
  rw [publish_ch, channel_eq, if_neg (by omega), if_neg (by omega), toNat_normChannel]
  omega

/-- A channel register a VALID frame has written, digital part (R177). -/
theorem publish_digitalRange (b : Memory) (s : State) (k : Fin 18) (hk : 16 ≤ k.val) :
    (publish b s).ch[k] = 998 ∨ (publish b s).ch[k] = 1998 := by
  have hdig (bit : Bool) : digital bit = 998 ∨ digital bit = 1998 := by cases bit <;> simp [digital_eq]
  rw [publish_ch, channel_eq]
  split
  · exact hdig _
  · rw [if_pos (by omega)]
    exact hdig _

/-- DECODE keeps the invariant, whatever the buffer holds (R150, R156). -/
theorem Inv.decodeBuffer (h : Inv s) (b : Memory) : Inv (decodeBuffer b s) := by
  rcases decodeBuffer_cases b s with ⟨_, e⟩ | ⟨_, _, e⟩ | ⟨_, _, e⟩ <;> rw [e]
  case inl => exact { h with }
  case inr.inl =>
    exact { h with
      countRange := .inl rfl
      blankBeforeValid := fun hv =>
        have ⟨hlock, _, hblank⟩ := h.blankBeforeValid hv
        ⟨hlock, rfl, hblank⟩
      lossShown := fun _ => rfl }
  case inr.inr =>
    exact { h with
      matrixRange := fun k hk => .inr (publish_matrixRange b s k hk)
      digitalRange := fun k hk => .inr (publish_digitalRange b s k hk)
      countRange := .inr rfl
      blankBeforeValid := fun hv => by simp at hv
      stampShown := fun _ => rfl
      lossShown := fun hl => by simp at hl }

/-- The phase register has no influence on DECODE, which leaves it as it is. -/
theorem decodeBuffer_withPhase (b : Memory) (s : State) (ph : Phase) :
    decodeBuffer b { s with phase := ph } = { decodeBuffer b s with phase := ph } := by
  simp only [decodeBuffer]
  split
  · rfl
  · split <;> rfl

/-! ### The synchronizer -/

/-- LOCKEVAL keeps the invariant: without a VALID frame it answers false (R137). -/
theorem Inv.updateLock (h : Inv s) : Inv (updateLock s) :=
  { h with
    blankBeforeValid := fun hv =>
      have hv : s.goodValid = false := hv
      ⟨by simp [lockEval, hv], (h.blankBeforeValid hv).2⟩ }

/-- The end of a frame keeps the invariant: the buffer is released, the lock evaluated, the sequencer idle (R136, R137). -/
theorem Inv.closeDispatch (h : Inv s) : Inv (close .dispatch s) :=
  { h.updateLock with
    fullAtDispatch := fun hp => by simp [close] at hp
    accBelowFull := fun _ => by simp [close]
    prefixWritten := fun i hi => by simp [close] at hi }

/-- The end of a POLL that runs in one piece is the end of a frame at DISPATCH (R136, R137). -/
theorem close_dispatch_withPhase (hidle : s.phase = .idle) :
    close .dispatch { s with phase := .dispatch } = updateLock (releaseBuffer s) := by
  cases s
  cases hidle
  rfl

theorem Inv.pollGated (h : Inv s) (hph : s.phase ≠ .dispatch) : Inv (pollGated s) := by
  rcases pollGated_cases s with ⟨_, e⟩ | ⟨_, e⟩ <;> rw [e]
  · exact { h with
      fullAtDispatch := fun hp => absurd hp hph
      accBelowFull := fun _ => by simp
      prefixWritten := fun i hi => by simp at hi }
  · exact { h with }

/-- INTAKE keeps BUF canonical: the bytes it reads fit (R66, R132). -/
theorem Inv.pollFilled_canonical (h : Inv s) (hrx : pollBytes s ≠ []) : Memory.wf (pollFilled s).buf := by
  have ⟨hacc, hle⟩ := toNat_pollFilled_acc s hrx
  rw [pollFilled_buf]
  exact Memory.writeBytes_wf _ h.bufCanonical (by simp only [Config.frameLen]; omega)

/-- After INTAKE every byte below the new `acc` has been written: by this POLL, or before it (R37 item 2). -/
theorem Inv.pollFilled_written (h : Inv s) (hrx : pollBytes s ≠ []) {i : Nat} (hi : i < (pollFilled s).acc.toNat) :
    (Memory.find (pollFilled s).buf i).isSome = true := by
  have ⟨hacc, _⟩ := toNat_pollFilled_acc s hrx
  have hle := pollGated_acc_le s
  rw [pollFilled_buf]
  apply Memory.isSome_find_writeBytes
  by_cases hold : i < (Machine.pollGated s).acc.toNat
  · exact .inl (h.prefixWritten i (by omega))
  · exact .inr (by omega)

/-- A POLL that leaves the frame incomplete keeps the invariant up to LOCKEVAL (R132, R135). -/
theorem Inv.pollFilled_incomplete (h : Inv s) (hph : s.phase ≠ .dispatch) (hrx : pollBytes s ≠ [])
    (hacc : (pollFilled s).acc.toNat < 25) : Inv (pollFilled s) :=
  { h.pollGated hph with
    bufCanonical := h.pollFilled_canonical hrx
    fullAtDispatch := fun hp => absurd ((pollFilled_phase s).symm.trans hp) hph
    accBelowFull := fun _ => by omega
    prefixWritten := fun _ hi => h.pollFilled_written hrx hi }

/-- A POLL that completes a frame is, after INTAKE, at DISPATCH with the invariant (R22, R136). -/
theorem Inv.pollFilled_full (h : Inv s) (hph : s.phase ≠ .dispatch) (hrx : pollBytes s ≠ [])
    (hacc : (pollFilled s).acc = 25) : Inv { pollFilled s with phase := .dispatch } :=
  { h.pollGated hph with
    bufCanonical := h.pollFilled_canonical hrx
    fullAtDispatch := fun _ => hacc
    accBelowFull := fun hp => absurd rfl hp
    prefixWritten := fun _ hi => h.pollFilled_written hrx hi }

/-! ### The step -/

/-- POLL, issued to an idle block, keeps the invariant on each of its three exit paths (R112). -/
theorem Inv.execPoll {t : State} (h : Inv s) (hph : s.phase = .idle) (ht : execPoll s = .next t) : Inv t := by
  have hnd : s.phase ≠ .dispatch := by simp [hph]
  rcases eq_of_execPoll ht with ⟨_, rfl⟩ | ⟨hrx, hacc, rfl⟩ | ⟨hrx, hacc, rfl⟩
  · exact (h.pollGated hnd).updateLock
  · exact (h.pollFilled_incomplete hnd hrx hacc).updateLock
  · have hfull := ((h.pollFilled_full hnd hrx hacc).decodeBuffer (pollFilled s).buf).closeDispatch
    have hidle : (Machine.decodeBuffer (pollFilled s).buf (pollFilled s)).phase = .idle := by
      obtain ⟨_, _, _, _, hphase, _⟩ := decodeBuffer_frame (pollFilled s).buf (pollFilled s)
      rw [hphase, pollFilled_phase, hph]
    rwa [decodeBuffer_withPhase, close_dispatch_withPhase hidle] at hfull

/-- A command, run on an idle block, keeps the invariant (Table R82). -/
theorem Inv.exec_decodeCmd {t : State} (h : Inv s) (hph : s.phase = .idle) (w : CmdWord)
    (ht : exec (decodeCmd w) s = .next t) : Inv t := by
  rcases decodeCmd_cases w with ⟨_, e⟩ | ⟨_, e⟩ | ⟨_, e⟩ | ⟨_, e⟩ <;> rw [e] at ht
  case inl => cases ht; exact h
  case inr.inl => exact h.execPoll hph ht
  case inr.inr.inl => cases ht; exact inv_clearRegisters h.bufCanonical (by simp [hph])
  case inr.inr.inr => cases ht; exact h

/-- Settles O41, by the five things a step can do (`step_cases`): a reset, an idle cycle, a command, the end of a frame, a
pick word. -/
theorem stepKeepsInvariant : Obligations.StepKeepsInvariant := by
  unfold Obligations.StepKeepsInvariant
  intro s t h hstep
  have hlow : Inv (lowerReport s) := { h with }
  rcases step_cases hstep with ⟨n, rest, _, rfl⟩ | ⟨_, _, rfl⟩ | ⟨r, rest, hph, _, hrun⟩ | ⟨_, rfl⟩ | ⟨e, _, _, hnd, rfl⟩
  · exact inv_hardReset n h.bufCanonical
  · exact hlow
  · exact Inv.exec_decodeCmd (s := accept r { lowerReport s with pending := rest }) { hlow with } hph r.cmd hrun
  · exact (hlow.decodeBuffer s.buf).closeDispatch
  · exact { hlow with
      fullAtDispatch := fun hp => nomatch hp
      accBelowFull := fun _ => h.accBelowFull hnd }

/-- Settles O33: the frame outcomes are the exit path through DISPATCH, and there `acc` of 25 makes R37 item 2 a statement
about the whole buffer. -/
theorem decoderReadsWrittenBytes : Obligations.DecoderReadsWrittenBytes := by
  unfold Obligations.DecoderReadsWrittenBytes
  intro s h hout
  have ⟨hrx, hacc⟩ := pollFilled_full_of_outcome hout
  refine ⟨hacc, execPoll_of_full hrx hacc, fun i hi => h.pollFilled_written hrx ?_⟩
  rw [hacc]
  exact hi

end Sys2Proof.Machine
end

section
/-! Stale bytes of BUF (R118, R37 item 3): a POLL of the same state with another buffer, phase by phase. The two runs keep
all but BUF equal, and BUF equal below `acc`; at DISPATCH that is all 25 bytes. -/

namespace Sys2Proof.Machine

/-- Two buffers with the same cells below an address. -/
def AgreeBelow (n : Nat) (m m' : Memory) : Prop := ∀ i : Nat, i < n → Memory.find m i = Memory.find m' i

namespace AgreeBelow

variable {n : Nat} {m m' : Memory}

theorem mono {k : Nat} (h : AgreeBelow n m m') (hk : k ≤ n) : AgreeBelow k m m' :=
  fun i hi => h i (Nat.lt_of_lt_of_le hi hk)

/-- Bytes written at the end of the agreement extend it. -/
theorem writeBytes (h : AgreeBelow n m m') (bs : List Byte) :
    AgreeBelow (n + bs.length) (Memory.writeBytes m n bs) (Memory.writeBytes m' n bs) := by
  intro i hi
  rw [Memory.find_writeBytes, Memory.find_writeBytes]
  split
  · rfl
  · exact h i (by omega)

theorem sameBytes (h : AgreeBelow 25 m m') : SameBytes m m' := fun i hi => Memory.read_congr (h i hi)

end AgreeBelow

variable (s : State) (m : Memory)

theorem pollGated_withBuf : pollGated { s with buf := m } = { pollGated s with buf := m } := by
  have hgate : gapExpired (sample { s with buf := m }) = gapExpired (sample s) := rfl
  simp only [pollGated, gapCheck, hgate]
  split <;> rfl

theorem pollBytes_withBuf : pollBytes { s with buf := m } = pollBytes s := by
  rw [pollBytes, pollGated_withBuf]
  rfl

theorem pollFilled_withBuf :
    pollFilled { s with buf := m } =
      { pollFilled s with buf := Memory.writeBytes m (pollGated s).acc.toNat (pollBytes s) } := by
  rw [pollFilled, pollGated_withBuf, pollBytes_withBuf]
  rfl

/-- DECODE reads the buffer it is given, not the BUF of the state it writes. -/
theorem decodeBuffer_withBuf (b : Memory) : decodeBuffer b { s with buf := m } = { decodeBuffer b s with buf := m } := by
  simp only [decodeBuffer]
  split
  · rfl
  · split <;> rfl

theorem releaseBuffer_withBuf : releaseBuffer { s with buf := m } = { releaseBuffer s with buf := m } := rfl

theorem updateLock_withBuf : updateLock { s with buf := m } = { updateLock s with buf := m } := rfl

/-- INTAKE extends an agreement below `acc` to one below the new `acc` (R132). -/
theorem AgreeBelow.pollFilled {s : State} {m : Memory} (h : AgreeBelow s.acc.toNat m s.buf) (hrx : pollBytes s ≠ []) :
    AgreeBelow (pollFilled s).acc.toNat (pollFilled { s with buf := m }).buf (pollFilled s).buf := by
  rw [(toNat_pollFilled_acc s hrx).1, pollFilled_withBuf, pollFilled_buf]
  exact (h.mono (pollGated_acc_le s)).writeBytes (pollBytes s)

/-- Settles O32, along the three exit paths of the POLL. The bound on `acc` is not needed: with 25 or more a POLL asks for
no bytes (log 17). -/
theorem staleBytesHaveNoInfluence : Obligations.StaleBytesHaveNoInfluence := by
  unfold Obligations.StaleBytesHaveNoInfluence
  intro s other _ (hagree : AgreeBelow s.acc.toNat other s.buf)
  have hbytes := pollBytes_withBuf s other
  have hfilled := pollFilled_withBuf s other
  simp only [exec_poll]
  rcases execPoll_cases s with ⟨hrx, ht⟩ | ⟨hrx, hacc, ht⟩ | ⟨hrx, hacc, ht⟩
  · refine ⟨_, _, ht, execPoll_of_empty (hbytes.trans hrx), ?_, ?_⟩
    · rw [pollGated_withBuf, updateLock_withBuf]
    · simp only [updateLock_buf, updateLock_acc, pollGated_buf]
      exact hagree.mono (pollGated_acc_le s)
  · refine ⟨_, _, ht, execPoll_of_incomplete (by rwa [hbytes]) (by rwa [hfilled]), ?_, hagree.pollFilled hrx⟩
    rw [hfilled, updateLock_withBuf]
  · have hsame : SameBytes (pollFilled { s with buf := other }).buf (pollFilled s).buf := by
      have hfull := hagree.pollFilled hrx
      rw [hacc] at hfull
      exact hfull.sameBytes
    refine ⟨_, _, ht, execPoll_of_full (by rwa [hbytes]) (by rwa [hfilled]), ?_, fun i hi => by simp at hi⟩
    rw [decodeBuffer_congr hsame, hfilled, decodeBuffer_withBuf, releaseBuffer_withBuf, updateLock_withBuf]

end Sys2Proof.Machine
end

section
/-! The byte source during a POLL (R67, spec/20_memory.md section 4): what SrcRead is asked for and what leaves the source.
The read of the model, after SAMPLE and GAPCHK, is the one the rules give by formula. -/

namespace Sys2Proof.Machine

open Rules

variable (s : State)

/-- The gap gate of a POLL is R131's, on the value of the pins (R130). -/
theorem gapExpired_sample : gapExpired (sample s) = decide (gateFires s) := by
  simp [gapExpired, gateFires, tsub]

/-- The count a POLL reads at: 0 once the gate has fired (R131). -/
theorem toNat_pollGated_acc : (pollGated s).acc.toNat = accAtRead s := by
  rcases pollGated_cases s with ⟨hgate, e⟩ | ⟨hgate, e⟩ <;> rw [gapExpired_sample] at hgate
  · rw [e, accAtRead, if_pos (of_decide_eq_true hgate), absorb_frameTimeout_acc]
    rfl
  · rw [e, accAtRead, if_neg (of_decide_eq_false hgate), sample_acc]

@[simp] theorem pollGated_src : (pollGated s).src = s.src := by
  rcases pollGated_cases s with ⟨_, e⟩ | ⟨_, e⟩ <;> simp [e]

@[simp] theorem pollGated_srcGrant : (pollGated s).srcGrant = s.srcGrant := by
  rcases pollGated_cases s with ⟨_, e⟩ | ⟨_, e⟩ <;> simp [e]

/-- The answer to a POLL's SrcRead is R132's `rx`. -/
theorem pollBytes_eq_bytesRead : pollBytes s = bytesRead s := by
  rw [pollBytes, srcAnswer, requestSize, toNat_pollGated_acc, pollGated_src, pollGated_srcGrant, bytesRead]

/-- R67's bounds on the answer: the request, and what the source gives. -/
theorem length_bytesRead_le : (bytesRead s).length ≤ 25 - accAtRead s ∧ (bytesRead s).length ≤ s.srcGrant := by
  have htake : (bytesRead s).length ≤ min s.srcGrant (25 - accAtRead s) := List.length_take_le _ _
  omega

/-- INTAKE is the only phase of a POLL that changes the source, and it removes as many bytes as it read (R67). -/
theorem execPoll_src {s t : State} (h : execPoll s = .next t) : t.src = s.src.drop (pollBytes s).length := by
  rcases eq_of_execPoll h with ⟨hrx, rfl⟩ | ⟨_, _, rfl⟩ | ⟨_, _, rfl⟩
  · simp [hrx]
  · simp [pollFilled]
  · obtain ⟨_, _, _, _, _, _, _, _, _, hsrc, _⟩ := decodeBuffer_frame (pollFilled s).buf (pollFilled s)
    rw [updateLock_src, releaseBuffer_src, hsrc]
    simp [pollFilled]

/-- Settles O25: the bytes read are a prefix of the source, and the POLL drops a prefix of their length. -/
theorem pollTakesTheOldestBytes : Obligations.PollTakesTheOldestBytes := by
  unfold Obligations.PollTakesTheOldestBytes
  intro s
  obtain ⟨t, ht⟩ := execPoll_next s
  have hrx := pollBytes_eq_bytesRead s
  have hsrc : t.src = s.src.drop (bytesRead s).length := hrx ▸ execPoll_src ht
  have hprefix : bytesRead s <+: s.src := List.take_prefix _ _
  have ⟨hrequest, hgrant⟩ := length_bytesRead_le s
  refine ⟨t, ht, ?_, hrequest, hgrant, hrx⟩
  rw [hsrc]
  exact (List.prefix_iff_eq_append.mp hprefix).symm

end Sys2Proof.Machine
end

section
/-! The pulse of `report_due` (R69 item 2, R179): only EMIT raises it, every step lowers the one before, and the DISPATCH in
which EMIT runs ends with the release of the buffer and LOCKEVAL. -/

namespace Sys2Proof.Machine

variable {s t : State}

/-- When `report_due` pulses, the registers show the record of the frame just decoded (R69, R179). -/
def PulseIsFresh (t : State) : Prop :=
  t.reportDue = true →
    t.chCount = 18 ∧ t.frameTs = t.nowLatch ∧ t.lastGoodTime = t.nowLatch ∧ t.goodValid = true ∧
    t.signalLost = false ∧ t.locked = true ∧ t.acc = 0

theorem PulseIsFresh.of_low (h : t.reportDue = false) : PulseIsFresh t := fun hdue => by simp [h] at hdue

@[simp] theorem pollGated_reportDue (s : State) : (pollGated s).reportDue = false := by
  rcases pollGated_cases s with ⟨_, e⟩ | ⟨_, e⟩ <;> simp [e]

@[simp] theorem pollFilled_reportDue (s : State) : (pollFilled s).reportDue = false := by simp [pollFilled]

/-- A frame decoded with `report_due` low: CORRUPT and SIGLOSS leave it low, VALID writes the whole record (R156, R180). -/
theorem PulseIsFresh.endOfFrame (hlow : s.reportDue = false) (b : Memory) :
    PulseIsFresh (updateLock (releaseBuffer (decodeBuffer b s))) := by
  rcases decodeBuffer_cases b s with ⟨_, e⟩ | ⟨_, _, e⟩ | ⟨_, _, e⟩ <;> rw [e]
  case inl => exact .of_low hlow
  case inr.inl => exact .of_low hlow
  case inr.inr => exact fun _ => ⟨rfl, rfl, rfl, rfl, rfl, lockEval_publish b s, rfl⟩

/-- SAMPLE lowers `report_due`, so of a POLL's exit paths only DISPATCH can raise it (R130, R136). -/
theorem PulseIsFresh.execPoll (h : execPoll s = .next t) : PulseIsFresh t := by
  rcases eq_of_execPoll h with ⟨_, rfl⟩ | ⟨_, _, rfl⟩ | ⟨_, _, rfl⟩
  · exact .of_low (pollGated_reportDue s)
  · exact .of_low (pollFilled_reportDue s)
  · exact .endOfFrame (pollFilled_reportDue s) (pollFilled s).buf

/-- Of the four commands only POLL can raise `report_due` (Table R82). -/
theorem PulseIsFresh.exec_decodeCmd (hlow : s.reportDue = false) (w : CmdWord)
    (h : exec (decodeCmd w) s = .next t) : PulseIsFresh t := by
  rcases decodeCmd_cases w with ⟨_, e⟩ | ⟨_, e⟩ | ⟨_, e⟩ | ⟨_, e⟩ <;> rw [e] at h
  case inl => cases h; exact .of_low hlow
  case inr.inl => exact .execPoll h
  case inr.inr.inl => cases h; exact .of_low hlow
  case inr.inr.inr => cases h; exact .of_low hlow

/-- Settles O44, by the five things a step can do (`step_cases`): a command and the end of a frame can pulse, a reset, an
idle cycle and a pick word cannot. -/
theorem pulseMeansFreshRecord : Obligations.PulseMeansFreshRecord := by
  unfold Obligations.PulseMeansFreshRecord
  intro s t hstep
  rcases step_cases hstep with ⟨n, rest, _, rfl⟩ | ⟨_, _, rfl⟩ | ⟨r, rest, _, _, hrun⟩ | ⟨_, rfl⟩ | ⟨e, _, _, _, rfl⟩
  · exact PulseIsFresh.of_low (hardReset_reportDue _ n)
  · exact PulseIsFresh.of_low (lowerReport_reportDue s)
  · exact PulseIsFresh.exec_decodeCmd (s := accept r { lowerReport s with pending := rest }) rfl r.cmd hrun
  · exact PulseIsFresh.endOfFrame (s := lowerReport s) rfl s.buf
  · exact PulseIsFresh.of_low (t := { accumulate e (lowerReport s) with phase := .idle }) rfl

end Sys2Proof.Machine
end

section
/-! The encodings (spec/30_encoding.md): the class rows of Table R87 by mask and match, and the reserved pick words of R90
at each place that meets one. -/

namespace Sys2Proof.Machine

open Rules

/-! ### Frame classes (R87) -/

/-- The payload whose bits are all 0: mask and match of Table R87 do not look at the payload. -/
def zeroPayload : FramePayload := ⟨0, false, false, 0⟩

/-- The match word of a row of Table R87: both markers, and the two failsafe bits of the row. -/
def classMatch (siglost failsafe : Bool) : BitVec 200 :=
  frameWordOf Config.startMark Config.endMark siglost failsafe zeroPayload

/-- Masking a frame word by another masks field by field (R84 to R86). -/
theorem frameWordOf_and (a b a' b' : Byte) (sl fs sl' fs' : Bool) (p p' : FramePayload) :
    frameWordOf a b sl fs p &&& frameWordOf a' b' sl' fs' p' =
      frameWordOf (a &&& a') (b &&& b') (sl && sl') (fs && fs')
        ⟨p.chfield &&& p'.chfield, p.d17 && p'.d17, p.d18 && p'.d18, p.unused &&& p'.unused⟩ := by
  apply BitVec.eq_of_getLsbD_eq
  intro n hn
  simp only [BitVec.getLsbD_and, frameWordOf_bit _ _ _ _ _ _ hn]
  split_ifs <;> rfl

/-- What the mask of Table R87 keeps of a frame word: the markers and the failsafe bits. -/
theorem and_classMask (F : BitVec 200) :
    F &&& classMask = frameWordOf (frameStart F) (frameEnd F) (frameSiglost F) (frameFailsafe F) zeroPayload := by
  have hmask : classMask = frameWordOf (BitVec.allOnes 8) (BitVec.allOnes 8) true true zeroPayload := by decide
  conv_lhs => rw [← frameWordOf_fields F, hmask, frameWordOf_and, BitVec.and_allOnes, BitVec.and_allOnes]
  simp [zeroPayload]

/-- A frame word meets a row of Table R87 exactly when both markers are good and its failsafe bits are those of the row. -/
theorem and_classMask_eq_classMatch_iff (F : BitVec 200) (sl fs : Bool) :
    F &&& classMask = classMatch sl fs ↔
      (frameStart F = Config.startMark ∧ frameEnd F = Config.endMark) ∧ frameSiglost F = sl ∧ frameFailsafe F = fs := by
  rw [and_classMask, classMatch]
  constructor
  · intro h
    have hstart := congrArg frameStart h
    have hend := congrArg frameEnd h
    have hsl := congrArg frameSiglost h
    have hfs := congrArg frameFailsafe h
    simp only [frameWordOf_checks] at hstart hend hsl hfs
    exact ⟨⟨hstart, hend⟩, hsl, hfs⟩
  · rintro ⟨⟨hstart, hend⟩, hsl, hfs⟩
    rw [hstart, hend, hsl, hfs]

/-- Settles O4: with the match words of Table R87 written as `classMatch`, each test of the table is a test of the decoder's
own fields. A wrong marker fails all four tests; with good markers the failsafe bits choose the row. -/
theorem frameClassesByMask : Obligations.FrameClassesByMask := by
  unfold Obligations.FrameClassesByMask
  intro F
  have hsigloss : (0x000C000000000000000000000000000000000000000000000F : BitVec 200) = classMatch true true := by decide
  have hvalid : (0x0000000000000000000000000000000000000000000000000F : BitVec 200) = classMatch false false := by decide
  have hvalidSl : (0x0004000000000000000000000000000000000000000000000F : BitVec 200) = classMatch true false := by decide
  have hvalidFs : (0x0008000000000000000000000000000000000000000000000F : BitVec 200) = classMatch false true := by decide
  simp only [hsigloss, hvalid, hvalidSl, hvalidFs, and_classMask_eq_classMatch_iff]
  rw [decode]
  by_cases hgood : frameStart F = Config.startMark ∧ frameEnd F = Config.endMark
  · cases hsl : frameSiglost F <;> cases hfs : frameFailsafe F <;> simp [decodeFrame, hgood, hsl, hfs]
  · have hbad : frameStart F ≠ Config.startMark ∨ frameEnd F ≠ Config.endMark := by
      rwa [ne_eq, ne_eq, ← not_and_or]
    simp only [hgood, false_and, if_false]
    rw [decodeFrame, if_pos hbad]
    rfl

/-! ### Reserved pick words (R90) -/

/-- A pick entry is well formed exactly when its word is none of the reserved ones (R90, 93 U2). -/
theorem pickEntry_wf_iff (e : PickEntry) : e.wf = true ↔ ¬ reservedPick e := by
  simp only [PickEntry.wf, Nat.shiftLeft_eq, Bool.and_eq_true, decide_eq_true_eq]
  omega

/-- The decoder on a pick word by itself (R89, R90). -/
theorem decode_pickWord (w : PickWord) :
    decode (.pickWord w) =
      if reservedPick (unpackPick w) then .error (.pickReserved w) else .ok (.pick (unpackPick w)) := by
  rw [decode]
  simp only [pickEntry_wf_iff, ite_not]

/-- Without a reset, the phase register says what a step fetches (R240). -/
theorem fetch_of_not_takesReset {s : State} (hrst : ¬ takesReset s) : fetch s = fetchPhase (lowerReport s) := by
  unfold fetch
  split
  · next popped rest hp => exact absurd ⟨popped, rest, hp⟩ hrst
  · rfl

/-- Settles O8: the decoder and the PICK row make the same test (`pickEntry_wf_iff`), and a step at the phase `pickWord`
fetches what the decoder answers. -/
theorem reservedPickWordsRefused : Obligations.ReservedPickWordsRefused := by
  unfold Obligations.ReservedPickWordsRefused
  intro w s
  refine ⟨fun hres => ?_, fun hnot => by rw [decode_pickWord, if_neg hnot]⟩
  have hdecode : decode (.pickWord w) = .error (.pickReserved w) := by rw [decode_pickWord, if_pos hres]
  refine ⟨hdecode, ?_, fun hphase hrst => ?_⟩
  · have hwf : ¬ (unpackPick w).wf = true := fun h => (pickEntry_wf_iff _).mp h hres
    rw [exec_pick, if_neg hwf, packPick_unpackPick]
  · have hfetch : fetch s = .bad (.pickReserved w) := by
      rw [fetch_of_not_takesReset hrst]
      simp only [fetchPhase, lowerReport, hphase, hdecode, fetchedOf]
    rw [step, hfetch]

end Sys2Proof.Machine
end

section
/-! The commands (spec/40_commands.md): the outcome labels of a POLL and what `report_due` and `dropcnt` show of them
(R115), the drops a step can count (R251), and the commands that read nothing (R111, R113, R114). -/

namespace Sys2Proof.Machine

open Rules

variable (s : State) (b : Memory)

/-! ### The label of a POLL (R115) -/

/-- GAPCHK fires by R131's formula. -/
theorem timeoutDrop_iff : timeoutDrop s = true ↔ gateFires s := by
  rw [timeoutDrop, gapExpired_sample, decide_eq_true_eq]

/-- The buffer INTAKE leaves is R132's. -/
theorem pollFilled_buf_eq_bufAfterRead : (pollFilled s).buf = bufAfterRead s := by
  rw [pollFilled_buf, toNat_pollGated_acc, pollBytes_eq_bytesRead, bufAfterRead]

/-- MARKCHK by the two markers of Table R5 (R151). -/
theorem markersBad_iff : markersBad b = true ↔ Memory.read b 0 ≠ 0x0F ∨ Memory.read b 24 ≠ 0x00 := by
  simp [markersBad]

/-- FSCHK by bits 2 and 3 of the flags byte (R153). -/
theorem failsafeBoth_iff :
    failsafeBoth b = true ↔ (Memory.read b 23).getLsbD 2 = true ∧ (Memory.read b 23).getLsbD 3 = true := by
  simp [failsafeBoth]

/-- The label by the bytes read and the buffer they leave (R115). -/
theorem pollOutcome_eq :
    pollOutcome s =
      (if bytesRead s = [] then .idle
      else if accAtRead s + (bytesRead s).length < 25 then .incomplete
      else if Memory.read (bufAfterRead s) 0 ≠ 0x0F ∨ Memory.read (bufAfterRead s) 24 ≠ 0x00 then .corrupt
      else if (Memory.read (bufAfterRead s) 23).getLsbD 2 = true ∧ (Memory.read (bufAfterRead s) 23).getLsbD 3 = true
        then .sigloss
      else .valid) := by
  rw [pollOutcome, pollFilled_buf_eq_bufAfterRead]
  simp only [markersBad_iff, failsafeBoth_iff, pollBytes_eq_bytesRead]
  by_cases hrx : bytesRead s = []
  · rw [if_pos hrx, if_pos hrx]
  · have hacc := (toNat_pollFilled_acc s (by rwa [pollBytes_eq_bytesRead])).1
    rw [toNat_pollGated_acc, pollBytes_eq_bytesRead] at hacc
    rw [if_neg hrx, if_neg hrx, hacc]

/-! ### What the label says of the state a POLL leaves -/

variable {s} in
/-- The label of a full frame is its class, in the order of R156. -/
theorem pollOutcome_of_full (hrx : pollBytes s ≠ []) (hacc : (pollFilled s).acc = 25) :
    pollOutcome s =
      if markersBad (pollFilled s).buf then .corrupt else if failsafeBoth (pollFilled s).buf then .sigloss else .valid := by
  rw [pollOutcome, if_neg hrx, if_neg (by rw [hacc]; decide)]

/-- The state after a POLL, one case for each outcome label (R115, R156). -/
theorem execPoll_cases_outcome :
    (pollOutcome s = .idle ∧ execPoll s = .next (updateLock (pollGated s))) ∨
    (pollOutcome s = .incomplete ∧ execPoll s = .next (updateLock (pollFilled s))) ∨
    (pollOutcome s = .corrupt ∧
      execPoll s = .next (updateLock (releaseBuffer (absorb .malformedFrame (pollFilled s))))) ∨
    (pollOutcome s = .sigloss ∧
      execPoll s = .next (updateLock (releaseBuffer (absorb .signalLoss (pollFilled s))))) ∨
    (pollOutcome s = .valid ∧
      execPoll s = .next (updateLock (releaseBuffer (publish (pollFilled s).buf (pollFilled s))))) := by
  rcases execPoll_cases s with ⟨hrx, e⟩ | ⟨hrx, hacc, e⟩ | ⟨hrx, hacc, e⟩
  · exact .inl ⟨by simp [pollOutcome, hrx], e⟩
  · exact .inr (.inl ⟨by simp [pollOutcome, hrx, hacc], e⟩)
  · have hlabel := pollOutcome_of_full hrx hacc
    rcases decodeBuffer_cases (pollFilled s).buf (pollFilled s) with ⟨hm, hd⟩ | ⟨hm, hf, hd⟩ | ⟨hm, hf, hd⟩ <;>
      rw [hd] at e
    · exact .inr (.inr (.inl ⟨by rw [hlabel, hm]; rfl, e⟩))
    · exact .inr (.inr (.inr (.inl ⟨by rw [hlabel, hm, hf]; rfl, e⟩)))
    · exact .inr (.inr (.inr (.inr ⟨by rw [hlabel, hm, hf]; rfl, e⟩)))

/-- GAPCHK alone counts a drop before the read (R131). -/
theorem pollGated_dropcnt : (pollGated s).dropcnt = s.dropcnt + if timeoutDrop s then 1 else 0 := by
  rcases pollGated_cases s with ⟨hgate, e⟩ | ⟨hgate, e⟩ <;> simp [e, timeoutDrop, hgate]

@[simp] theorem pollFilled_dropcnt : (pollFilled s).dropcnt = (pollGated s).dropcnt := by simp [pollFilled]

variable {s} {t : State}

/-- Of the five labels, VALID alone raises `report_due` (R115, R179). -/
theorem execPoll_reportDue (h : execPoll s = .next t) : t.reportDue = true ↔ pollOutcome s = .valid := by
  rcases execPoll_cases_outcome s with ⟨ho, e⟩ | ⟨ho, e⟩ | ⟨ho, e⟩ | ⟨ho, e⟩ | ⟨ho, e⟩ <;>
    · cases h.symm.trans e
      simp [ho]

/-- The gate's drop, and CORRUPT's (R115). -/
theorem execPoll_dropcnt (h : execPoll s = .next t) :
    t.dropcnt = s.dropcnt + (if timeoutDrop s then 1 else 0) + (if pollOutcome s = .corrupt then 1 else 0) := by
  rw [← pollGated_dropcnt]
  rcases execPoll_cases_outcome s with ⟨ho, e⟩ | ⟨ho, e⟩ | ⟨ho, e⟩ | ⟨ho, e⟩ | ⟨ho, e⟩ <;>
    · cases h.symm.trans e
      simp [ho]

/-- Settles O28: gate and label by the formulas of R131, R132 and R115; the two observables by the label. -/
theorem outcomeShowsInPulseAndCounter : Obligations.OutcomeShowsInPulseAndCounter := by
  unfold Obligations.OutcomeShowsInPulseAndCounter
  intro s
  obtain ⟨t, ht⟩ := execPoll_next s
  exact ⟨timeoutDrop_iff s, pollOutcome_eq s, t, ht, execPoll_reportDue ht, execPoll_dropcnt ht⟩

/-! ### The drops of a step (R26, R251) -/

/-- DECODE counts at most one drop (R152). -/
theorem decodeBuffer_dropcnt (b : Memory) (s : State) :
    (decodeBuffer b s).dropcnt = s.dropcnt ∨ (decodeBuffer b s).dropcnt = s.dropcnt + 1 := by
  rcases decodeBuffer_cases b s with ⟨_, e⟩ | ⟨_, _, e⟩ | ⟨_, _, e⟩ <;> simp [e]

/-- A POLL counts two drops when its gate fires and its frame is CORRUPT (R115, R116). -/
theorem execPoll_dropcnt_cases (h : execPoll s = .next t) :
    t.dropcnt = s.dropcnt ∨ t.dropcnt = s.dropcnt + 1 ∨ t.dropcnt = s.dropcnt + 2 := by
  rw [execPoll_dropcnt h, BitVec.add_assoc]
  split <;> split
  · exact .inr (.inr rfl)
  · exact .inr (.inl rfl)
  · exact .inr (.inl rfl)
  · exact .inl (BitVec.add_zero _)

/-- Of the commands other than REINIT only POLL counts drops (Table R82). -/
theorem exec_decodeCmd_dropcnt {w : CmdWord} (hw : w ≠ 0b10) (h : exec (decodeCmd w) s = .next t) :
    t.dropcnt = s.dropcnt ∨ t.dropcnt = s.dropcnt + 1 ∨ (t.dropcnt = s.dropcnt + 2 ∧ w = 0b01) := by
  rcases decodeCmd_cases w with ⟨_, e⟩ | ⟨hpoll, e⟩ | ⟨hreinit, _⟩ | ⟨_, e⟩
  · rw [e] at h
    cases h
    exact .inl rfl
  · rw [e] at h
    exact (execPoll_dropcnt_cases h).imp_right (Or.imp_right (⟨·, hpoll⟩))
  · exact absurd hreinit hw
  · rw [e] at h
    cases h
    exact .inl rfl

/-- Settles O45, by the five things a step can do (`step_cases`): an idle cycle and a pick word count no drop, the end of a
frame at most one, and of the commands a POLL at most two. -/
theorem dropCounterAdvancesByAtMostTwo : Obligations.DropCounterAdvancesByAtMostTwo := by
  unfold Obligations.DropCounterAdvancesByAtMostTwo
  intro s t hstep hrst hreinit
  rcases step_cases hstep with ⟨n, rest, hp, _⟩ | ⟨_, _, rfl⟩ | ⟨r, rest, hph, hp, hrun⟩ | ⟨_, rfl⟩ | ⟨e, _, _, _, rfl⟩
  · exact absurd ⟨n, rest, hp⟩ hrst
  · exact .inl (lowerReport_dropcnt s)
  · have hw : r.cmd ≠ 0b10 := fun hw => hreinit ⟨hph, r, rest, hp, hw⟩
    exact (exec_decodeCmd_dropcnt hw hrun).imp_right
      (Or.imp_right fun ⟨htwo, hpoll⟩ => ⟨htwo, hph, r, rest, hp, hpoll⟩)
  · exact (decodeBuffer_dropcnt s.buf (lowerReport s)).imp_right .inl
  · exact .inl rfl

/-! ### The commands that read nothing (R111, R113, R114) -/

theorem exec_nop (s : State) : exec .nop s = .next s := rfl

theorem exec_rsvd (s : State) : exec .rsvd s = .next s := rfl

theorem exec_reinit (s : State) : exec .reinit s = .next (clearRegisters s) := rfl

/-- Settles O9: both rows answer the state they are given. -/
theorem nopAndReservedChangeNothing : Obligations.NopAndReservedChangeNothing := by
  unfold Obligations.NopAndReservedChangeNothing
  exact fun s => ⟨exec_nop s, exec_rsvd s⟩

/-- Settles O10: REINIT is `clearRegisters`, whose channel registers are all 0. -/
theorem reinitClearsAllButBuffer : Obligations.ReinitClearsAllButBuffer := by
  unfold Obligations.ReinitClearsAllButBuffer
  intro s
  have hch : (Vector.ofFn fun _ => 0 : Vector ChannelValue 18) = Vector.replicate 18 0 := by
    ext k hk
    simp
  rw [exec_reinit, clearRegisters, hch]

end Sys2Proof.Machine
end

section
/-! The synchronizer (spec/41_synchronizer.md): each phase of a POLL by the formulas of its rule, and the exit paths of R133
and R135 as whole next states. -/

namespace Sys2Proof.Machine

open Rules

variable (s : State)

/-! ### The gap gate (R131) -/

/-- GAPCHK by R131's formula, on the latched `now`. -/
theorem gapCheck_eq :
    gapCheck s = if 3000 < (s.nowLatch - s.lastByteTime).toNat ∧ 0 < s.acc.toNat
      then { s with dropcnt := s.dropcnt + 1, acc := 0 } else s := by
  simp [gapCheck, gapExpired, tsub, absorb]

/-- The state a POLL reads in: what SAMPLE and GAPCHK write (R130, R131). -/
theorem pollGated_eq :
    pollGated s = { s with
      nowLatch := s.nowIn
      reportDue := false
      acc := if gateFires s then 0 else s.acc
      dropcnt := s.dropcnt + gateDrop s } := by
  rcases pollGated_cases s with ⟨hgate, e⟩ | ⟨hgate, e⟩ <;> rw [gapExpired_sample] at hgate <;> rw [e]
  · have hfires := of_decide_eq_true hgate
    simp only [absorb, sample, gateDrop, if_pos hfires]
  · have hholds := of_decide_eq_false hgate
    simp only [sample, gateDrop, if_neg hholds, BitVec.ofNat_eq_ofNat, BitVec.add_zero]

@[simp] theorem pollGated_nowLatch : (pollGated s).nowLatch = s.nowIn := by rw [pollGated_eq]

@[simp] theorem pollFilled_nowLatch : (pollFilled s).nowLatch = s.nowIn := by simp [pollFilled]

variable {s} in
/-- A state whose gate fires is, after GAPCHK, as if its partial frame had been dropped before the POLL (R131). -/
theorem pollGated_of_gateFires (h : gateFires s) :
    pollGated s = pollGated { s with acc := 0, dropcnt := s.dropcnt + 1 } := by
  have hempty : ¬ gateFires { s with acc := 0, dropcnt := s.dropcnt + 1 } := fun hfires => Nat.lt_irrefl 0 hfires.2
  rw [pollGated_eq, pollGated_eq, if_pos h, if_neg hempty, gateDrop, gateDrop, if_pos h, if_neg hempty]
  simp

/-- A POLL sees nothing of its state but what SAMPLE and GAPCHK leave (R112). -/
theorem execPoll_congr {s s' : State} (h : pollGated s = pollGated s') : execPoll s = execPoll s' := by
  have hrx : pollBytes s = pollBytes s' := by rw [pollBytes, h, pollBytes]
  have hfilled : pollFilled s = pollFilled s' := by rw [pollFilled, hrx, h, pollFilled]
  rw [execPoll, hrx, hfilled, h, execPoll]

/-- Settles O26: the gate by its formula; a POLL whose gate fires reads in the same state as one that starts without the
partial frame. -/
theorem expiredGapDiscardsPrefix : Obligations.ExpiredGapDiscardsPrefix := by
  unfold Obligations.ExpiredGapDiscardsPrefix
  refine fun s => ⟨gapCheck_eq s, fun hfires => ⟨?_, execPoll_congr (pollGated_of_gateFires hfires)⟩⟩
  have hdrop : timeoutDrop s = true := (timeoutDrop_iff s).mpr hfires
  simp [pollConditions, hdrop]

/-! ### The bytes of BUF (R132) -/

/-- After any POLL, BUF is what `buf[acc + i] <- rx[i]` leaves: of its phases only INTAKE writes it (R132, R150). -/
theorem execPoll_buf {s t : State} (h : execPoll s = .next t) : t.buf = bufAfterRead s := by
  rcases eq_of_execPoll h with ⟨hrx, rfl⟩ | ⟨_, _, rfl⟩ | ⟨_, _, rfl⟩
  · rw [pollBytes_eq_bytesRead] at hrx
    rw [updateLock_buf, pollGated_buf, bufAfterRead, hrx, Memory.writeBytes]
  · exact pollFilled_buf_eq_bufAfterRead s
  · obtain ⟨hbuf, _⟩ := decodeBuffer_frame (pollFilled s).buf (pollFilled s)
    rw [updateLock_buf, releaseBuffer_buf, hbuf, pollFilled_buf_eq_bufAfterRead]

/-- Settles O24: `execPoll_buf`, with the rules for a read outside and inside a written stream. -/
theorem pollWritesOnlyTheBytesRead : Obligations.PollWritesOnlyTheBytesRead := by
  unfold Obligations.PollWritesOnlyTheBytesRead
  intro s
  obtain ⟨t, ht⟩ := execPoll_next s
  refine ⟨t, ht, ?_⟩
  rw [execPoll_buf ht, bufAfterRead]
  refine ⟨fun a houtside => ?_, fun j hj => Memory.read_writeBytes_inside _ _ j _ hj⟩
  have hfind := Memory.find_writeBytes_outside s.buf (bytesRead s) houtside
  exact ⟨hfind, Memory.read_congr hfind⟩

/-! ### LOCKEVAL (R137) -/

/-- LOCKEVAL is R137's formula, on registers that it does not write itself. -/
theorem updateLock_locked_eq_lockAt :
    (updateLock s).locked = lockAt (updateLock s).goodValid (updateLock s).lastGoodTime (updateLock s).nowLatch := rfl

/-- No phase after SAMPLE writes the latched `now`, at which LOCKEVAL looks (R130). -/
theorem execPoll_nowLatch {s t : State} (h : execPoll s = .next t) : t.nowLatch = s.nowIn := by
  rcases eq_of_execPoll h with ⟨_, rfl⟩ | ⟨_, _, rfl⟩ | ⟨_, _, rfl⟩
  · exact pollGated_nowLatch s
  · exact pollFilled_nowLatch s
  · obtain ⟨_, _, _, _, _, hlatch, _⟩ := decodeBuffer_frame (pollFilled s).buf (pollFilled s)
    rw [updateLock_nowLatch, releaseBuffer_nowLatch, hlatch, pollFilled_nowLatch]

/-- Every exit path of a POLL ends with LOCKEVAL, at this POLL's `now` (R137). -/
theorem execPoll_locked {s t : State} (h : execPoll s = .next t) :
    t.locked = lockAt t.goodValid t.lastGoodTime s.nowIn := by
  rw [← execPoll_nowLatch h]
  rcases eq_of_execPoll h with ⟨_, rfl⟩ | ⟨_, _, rfl⟩ | ⟨_, _, rfl⟩ <;> exact updateLock_locked_eq_lockAt _

/-- Settles O27: the formula is `execPoll_locked`; without a VALID frame it is false, and after one `PulseIsFresh` gives
true. -/
theorem everyPollEvaluatesLock : Obligations.EveryPollEvaluatesLock := by
  unfold Obligations.EveryPollEvaluatesLock
  intro s
  obtain ⟨t, ht⟩ := execPoll_next s
  have hlock := execPoll_locked ht
  refine ⟨t, ht, hlock, fun hnever => ?_, fun hdue => ?_⟩
  · rw [hlock, lockAt, hnever, Bool.false_and]
  · obtain ⟨_, _, _, _, _, hlocked, _⟩ := PulseIsFresh.execPoll ht hdue
    exact hlocked

/-! ### The exit paths that decode nothing (R133, R135) -/

/-- The state after INTAKE, by the formulas of R130 to R134. -/
theorem pollFilled_eq : pollFilled s = afterRead s (BitVec.ofNat 5 (accAtRead s + (bytesRead s).length)) := by
  rw [pollFilled, intake, toNat_pollGated_acc, pollBytes_eq_bytesRead, pollGated_eq]
  rfl

/-- Settles O20: the exit path of R133 is LOCKEVAL on the gated state, which `pollGated_eq` writes out. -/
theorem pollReadingNothing : Obligations.PollReadingNothing := by
  unfold Obligations.PollReadingNothing
  intro s hrx
  constructor
  · have hidle : pollOutcome s = .idle := by rw [pollOutcome_eq, if_pos hrx]
    simp [pollConditions, hidle]
  · rw [exec_poll, execPoll_of_empty (by rwa [pollBytes_eq_bytesRead]), pollGated_eq]
    rfl

/-- Settles O21: the exit path of R135 is LOCKEVAL on the state after INTAKE, which `pollFilled_eq` writes out. -/
theorem pollAccumulating : Obligations.PollAccumulating := by
  unfold Obligations.PollAccumulating
  intro s hbytes hfew
  have hrx : pollBytes s ≠ [] := by rwa [pollBytes_eq_bytesRead]
  have hacc : (pollFilled s).acc.toNat < 25 := by
    rwa [(toNat_pollFilled_acc s hrx).1, toNat_pollGated_acc, pollBytes_eq_bytesRead]
  rw [exec_poll, execPoll_of_incomplete hrx hacc, pollFilled_eq]
  rfl

end Sys2Proof.Machine
end

section
/-! The frame validator (spec/42_validator.md): what a FRAME row does to the state. -/

namespace Sys2Proof.Machine

/-- A SIGLOSS frame is the absorbed condition SIGNAL_LOSS, whatever its payload (R154, Table R211). -/
theorem exec_frameSigloss (p : FramePayload) (s : State) :
    exec (.frameSigloss p) s = .next (absorb .signalLoss s) := rfl

/-- Settles O16: the row absorbs SIGNAL_LOSS, whose effect is the two fields of R154. -/
theorem siglossFrameReportsNoChannels : Obligations.SiglossFrameReportsNoChannels := by
  unfold Obligations.SiglossFrameReportsNoChannels
  intro p s
  rw [exec_frameSigloss, absorb]

end Sys2Proof.Machine
end

section
/-! The channel registers of a VALID frame (spec/43_extraction.md): NORM (R176) and the bounds of the channel loop (R171,
R177, R178), for every MAX_CH of the source. -/

namespace Sys2Proof.Machine

/-! ### NORM (R176) -/

/-- A channel of the loop holds its row's normalized raw value (R171, R173). -/
theorem extractChannels_getElem_of_lt {p : Params} {k : Fin 18} (hk : k.val < min 18 p.maxCh) (b : Memory)
    (ch : Vector ChannelValue 18) : (extractChannels p b ch)[k] = normChannel (rawChannel b k) := by
  rw [extractChannels_getElem, channelCount, if_pos hk]

/-- The range of NORM: an 11-bit raw value is below 2048 (R176). -/
theorem normChannel_range (raw : BitVec 11) : 998 ≤ (normChannel raw).toNat ∧ (normChannel raw).toNat ≤ 2021 := by
  have hraw := raw.isLt
  rw [toNat_normChannel]
  omega

/-- NORM sees no more of a raw value than its half (R176). -/
theorem normChannel_congr {raw raw' : BitVec 11} (h : raw.toNat / 2 = raw'.toNat / 2) :
    normChannel raw = normChannel raw' := by
  apply BitVec.eq_of_toNat_eq
  rw [toNat_normChannel, toNat_normChannel, h]

/-- Settles O18: a channel of the loop is NORM of its row's raw value; 2m and 2m + 1 have the half m. -/
theorem normalizationIsHalfPlus998 : Obligations.NormalizationIsHalfPlus998 := by
  unfold Obligations.NormalizationIsHalfPlus998
  constructor
  · intro p b ch k hk
    rw [extractChannels_getElem_of_lt hk]
    exact ⟨toNat_normChannel _, normChannel_range _⟩
  · intro m hm
    apply normChannel_congr
    rw [BitVec.toNat_ofNat, BitVec.toNat_ofNat]
    omega

/-! ### The bounds of the channel loop (R171, R177, R178) -/

/-- DIGITAL runs for no MAX_CH but 18 (R177): the others leave what the loop wrote. -/
theorem writeChannels_getElem_of_lt {p : Params} (hp : p.maxCh < 18) (b : Memory) (s : State) (k : Fin 18) :
    (writeChannels p b s).ch[k] = if k.val < min 18 p.maxCh then normChannel (rawChannel b k) else s.ch[k] := by
  rw [writeChannels_ch, digitalChannels_getElem, if_neg (by omega), if_neg (by omega), extractChannels_getElem,
    channelCount]

/-- With MAX_CH 18 every channel is written, the last two by DIGITAL (R171, R177). -/
theorem writeChannels_getElem_of_eq {p : Params} (hp : p.maxCh = 18) (b : Memory) (s : State) (k : Fin 18) :
    (writeChannels p b s).ch[k] =
      if k.val = 16 then digital ((Memory.read b 23).getLsbD 0)
      else if k.val = 17 then digital ((Memory.read b 23).getLsbD 1)
      else normChannel (rawChannel b k) := by
  have hloop : (extractChannels p b s.ch)[k] = normChannel (rawChannel b k) :=
    extractChannels_getElem_of_lt (by omega) b s.ch
  rw [writeChannels_ch, digitalChannels_getElem, hloop]
  by_cases h16 : k.val = 16
  · rw [if_neg (by omega), if_pos (by omega), if_pos h16]
  · simp [hp, h16]

/-- Row 16 of the ROM is empty (R174): all its masks are 0, and its raw value is 0 whatever the buffer holds. -/
theorem rawChannel_sixteen (b : Memory) : rawChannel b 16 = 0 := by
  have hmask : ∀ j : Fin 3, (romEntry 16 j).mask = 0 := by decide
  have hpiece (j : Fin 3) : pickPiece b (romEntry 16 j) = 0 := by rw [pickPiece, if_pos (hmask j)]
  simp [rawChannel, hpiece, List.finRange_succ]

/-- Settles O19: MAX_CH 18 writes every channel, and DIGITAL the last two; a smaller MAX_CH leaves the loop's channels as
they are, of which channel 16, for MAX_CH 17, is NORM of an empty row. -/
theorem channelLoopBounds : Obligations.ChannelLoopBounds := by
  unfold Obligations.ChannelLoopBounds
  intro p b s _ hle
  refine ⟨fun k => ?_, fun h17 => ?_, by rw [emit_chCount, channelCount]⟩
  · rcases hle.eq_or_lt with h18 | hlt
    · rw [writeChannels_getElem_of_eq h18, digital_eq, digital_eq]
      simp [h18, normChannel]
    · rw [if_neg (by omega), if_neg (by omega), writeChannels_getElem_of_lt hlt]
      rfl
  · have h16 : (writeChannels p b s).ch[(16 : Fin 18)] = normChannel (rawChannel b 16) := by
      rw [writeChannels_getElem_of_lt (by omega), if_pos (by simp [h17])]
    exact h16.trans (by rw [rawChannel_sixteen]; rfl)

end Sys2Proof.Machine
end

section
/-! The end of a step (spec/60_exceptions.md): what a step answers for each thing it finds to do, and that it leaves the
block ready unless it refuses a reserved pick word (R210, R224). -/

namespace Sys2Proof.Machine

open Rules

variable {s : State}

/-! ### What a step answers, one equation for each thing `fetch` can find -/

theorem step_of_fetch_run {i : Instr} {u : State} (h : fetch s = .run i u) :
    step s = closeOutcome s.phase (exec i u) := by
  rw [step, h]

/-- A command is complete by itself: nothing follows its `exec`. -/
@[simp] theorem closeOutcome_idle (o : Host.Outcome State Fault Refusal) : closeOutcome .idle o = o := by
  cases o <;> rfl

/-- A reset comes before all else, at any phase (R240). -/
theorem step_of_reset {n : Nat} {rest : List Input} (hp : s.pending = .rst n :: rest) :
    step s = .next (hardReset n { s with pending := rest }) := by
  simp only [step, fetch, hp]

/-- The idle cycle (R224). -/
theorem step_idle_of_nothing_pending (hph : s.phase = .idle) (hp : s.pending = []) :
    step s = .next (lowerReport s) := by
  simp only [step, fetch, fetchPhase, lowerReport, hph, hp]

/-- An idle block runs the command it is offered (R81, R110). -/
theorem step_idle_of_command {r : Request} {rest : List Input} (hph : s.phase = .idle)
    (hp : s.pending = .command r :: rest) :
    step s = exec (decodeCmd r.cmd) (accept r { lowerReport s with pending := rest }) := by
  have hfetch : fetch s = .run (decodeCmd r.cmd) (accept r { lowerReport s with pending := rest }) := by
    simp only [fetch, fetchPhase, lowerReport, hph, hp, decode, fetchedOf]
  rw [step_of_fetch_run hfetch, hph, closeOutcome_idle]

/-- At DISPATCH a step decodes the buffer in place and ends the POLL (R136, R150). -/
theorem step_dispatch (hrst : ¬ takesReset s) (hph : s.phase = .dispatch) :
    step s = .next (close .dispatch (decodeBuffer s.buf (lowerReport s))) := by
  have hfetch : fetch s = .run (decodeFrame (frameWord s.buf)) (lowerReport s) := by
    rw [fetch_of_not_takesReset hrst]
    simp only [fetchPhase, lowerReport, hph, decode, fetchedOf]
  rw [step_of_fetch_run hfetch, hph, exec_decodeFrame, closeOutcome]

/-- At EXTRACT a step ORs in the piece of the ROM slot's entry (R172, R173). -/
theorem step_extract {k : Fin 18} {j : Fin 3} (hrst : ¬ takesReset s) (hph : s.phase = .extract k j) :
    step s = .next (close (.extract k j) (accumulate (romEntry k j) (lowerReport s))) := by
  have hfetch : fetch s = .run (romInstr k j) (lowerReport s) := by
    rw [fetch_of_not_takesReset hrst]
    simp only [fetchPhase, lowerReport, hph, decode, if_true, fetchedOf]
  rw [step_of_fetch_run hfetch, hph, exec_romInstr, closeOutcome]

/-- A pick word by itself, not reserved, is evaluated (R90, R172). -/
theorem step_pickWord {w : PickWord} (hrst : ¬ takesReset s) (hph : s.phase = .pickWord w)
    (hw : ¬ reservedPick (unpackPick w)) :
    step s = .next (close (.pickWord w) (accumulate (unpackPick w) (lowerReport s))) := by
  have hfetch : fetch s = .run (.pick (unpackPick w)) (lowerReport s) := by
    rw [fetch_of_not_takesReset hrst]
    simp only [fetchPhase, lowerReport, hph, decode_pickWord, if_neg hw, fetchedOf]
  rw [step_of_fetch_run hfetch, hph, exec_pick, if_pos ((pickEntry_wf_iff _).mpr hw), closeOutcome]

/-! ### Commands complete where they were issued -/

@[simp] theorem decodeBuffer_phase (b : Memory) (s : State) : (decodeBuffer b s).phase = s.phase := by
  rcases decodeBuffer_cases b s with ⟨_, e⟩ | ⟨_, _, e⟩ | ⟨_, _, e⟩ <;> simp [e]

/-- Each exit path of a POLL leaves the phase register as it was (R112). -/
theorem execPoll_phase {t : State} (h : execPoll s = .next t) : t.phase = s.phase := by
  rcases eq_of_execPoll h with ⟨_, rfl⟩ | ⟨_, _, rfl⟩ | ⟨_, _, rfl⟩ <;> simp

/-- Every command terminates, and leaves the phase register as it was (R110, Table R82). -/
theorem exec_decodeCmd_next (w : CmdWord) (s : State) :
    ∃ t, exec (decodeCmd w) s = .next t ∧ t.phase = s.phase := by
  rcases decodeCmd_cases w with ⟨_, e⟩ | ⟨_, e⟩ | ⟨_, e⟩ | ⟨_, e⟩ <;> rw [e]
  case inl => exact ⟨s, exec_nop s, rfl⟩
  case inr.inl =>
    obtain ⟨t, ht⟩ := execPoll_next s
    exact ⟨t, ht, execPoll_phase ht⟩
  case inr.inr.inl => exact ⟨clearRegisters s, exec_reinit s, rfl⟩
  case inr.inr.inr => exact ⟨s, exec_rsvd s, rfl⟩

/-! ### Completion (R210) -/

/-- `cmd_ready` is the idle phase (Table R39). -/
theorem Completes.of_step {t : State} (h : step s = .next t) (hph : t.phase = .idle) : Completes s :=
  ⟨t, h, decide_eq_true hph⟩

/-- An idle block that is not being reset completes what it is offered, or its idle cycle (R110, R224). -/
theorem Completes.of_idle (hrst : ¬ takesReset s) (hph : s.phase = .idle) : Completes s := by
  match hp : s.pending with
  | [] => exact .of_step (step_idle_of_nothing_pending hph hp) hph
  | .command r :: rest =>
    obtain ⟨t, ht, hidle⟩ := exec_decodeCmd_next r.cmd (accept r { lowerReport s with pending := rest })
    exact .of_step ((step_idle_of_command hph hp).trans ht) (hidle.trans hph)
  | .rst n :: rest => exact absurd ⟨n, rest, hp⟩ hrst

/-- Settles O38: the equation of the idle cycle. -/
theorem idleBlockHoldsItsState : Obligations.IdleBlockHoldsItsState := by
  unfold Obligations.IdleBlockHoldsItsState
  intro s hph hp
  exact step_idle_of_nothing_pending hph hp

/-- Settles O39: a reset, or else the phase, says what the step does, and of these only a reserved word at the phase
`pickWord` has no next state. -/
theorem stepCompletesOrRefusesReservedPick : Obligations.StepCompletesOrRefusesReservedPick := by
  unfold Obligations.StepCompletesOrRefusesReservedPick
  intro s
  by_cases hrst : takesReset s
  · obtain ⟨n, rest, hp⟩ := hrst
    exact .inl (.of_step (step_of_reset hp) (hardReset_phase _ n))
  · match hph : s.phase with
    | .idle => exact .inl (.of_idle hrst hph)
    | .dispatch => exact .inl (.of_step (step_dispatch hrst hph) rfl)
    | .extract k j => exact .inl (.of_step (step_extract hrst hph) rfl)
    | .pickWord w =>
      by_cases hw : reservedPick (unpackPick w)
      · obtain ⟨_, _, hrefused⟩ := (reservedPickWordsRefused w s).1 hw
        exact .inr ⟨w, rfl, hw, hrefused hph hrst⟩
      · exact .inl (.of_step (step_pickWord hrst hph hw) rfl)

end Sys2Proof.Machine
end

section
/-! The lock between POLLs (spec/70_reset_and_hazards.md): only LOCKEVAL, REINIT and reset write `locked` (R246). -/

namespace Sys2Proof.Machine

/-- Of the four commands POLL and REINIT alone write `locked`: NOP and the reserved word change nothing (Table R82). -/
theorem exec_decodeCmd_locked {s t : State} {w : CmdWord} (hpoll : w ≠ 0b01) (hreinit : w ≠ 0b10)
    (h : exec (decodeCmd w) s = .next t) : t.locked = s.locked := by
  rcases decodeCmd_cases w with ⟨_, e⟩ | ⟨hw, _⟩ | ⟨hw, _⟩ | ⟨_, e⟩
  · rw [e, exec_nop] at h
    cases h
    rfl
  · exact absurd hw hpoll
  · exact absurd hw hreinit
  · rw [e, exec_rsvd] at h
    cases h
    rfl

/-- Settles O43, by the five things a step can do (`step_cases`): the reset and the end of a frame are excluded, an idle
cycle and a pick word do not write `locked`, and the command is neither POLL nor REINIT. -/
theorem lockedHeldBetweenPolls : Obligations.LockedHeldBetweenPolls := by
  unfold Obligations.LockedHeldBetweenPolls
  intro s t hstep hrst hpoll hreinit hnd
  rcases step_cases hstep with ⟨n, rest, hp, _⟩ | ⟨_, _, rfl⟩ | ⟨r, rest, hph, hp, hrun⟩ | ⟨hph, _⟩ | ⟨e, _, _, _, rfl⟩
  · exact absurd ⟨n, rest, hp⟩ hrst
  · exact lowerReport_locked s
  · have hnotPoll : r.cmd ≠ 0b01 := fun hw => hpoll ⟨hph, r, rest, hp, hw⟩
    have hnotReinit : r.cmd ≠ 0b10 := fun hw => hreinit ⟨hph, r, rest, hp, hw⟩
    exact exec_decodeCmd_locked (s := accept r { lowerReport s with pending := rest }) hnotPoll hnotReinit hrun
  · exact absurd hph hnd
  · exact accumulate_locked (lowerReport s) e

end Sys2Proof.Machine
end

section
/-! The two round trips between instructions and encoded bits (spec/30_encoding.md sections 2 to 6), and the host's way in
(log 6), which places a row's bits where the next fetch decodes them. -/

namespace Sys2Proof.Machine

open Rules

/-! ### The FRAME rows with good markers (R87) -/

/-- The row of Table R87 for a frame with good markers, by its two failsafe bits. -/
def goodFrameRow (siglost failsafe : Bool) (p : FramePayload) : Instr :=
  match siglost, failsafe with
  | true, true => .frameSigloss p
  | false, false => .frameValid p
  | true, false => .frameValidSl p
  | false, true => .frameValidFs p

theorem goodFrameRow_wf (sl fs : Bool) (p : FramePayload) : (goodFrameRow sl fs p).wf = true := by
  cases sl <;> cases fs <;> rfl

theorem encode_goodFrameRow (sl fs : Bool) (p : FramePayload) :
    encode (goodFrameRow sl fs p) = .frame (frameWordOf Config.startMark Config.endMark sl fs p) := by
  cases sl <;> cases fs <;> rfl

/-- A wrong marker makes the class CORRUPT (R87 test 1). -/
theorem decodeFrame_of_badMarker {F : BitVec 200}
    (h : frameStart F ≠ Config.startMark ∨ frameEnd F ≠ Config.endMark) :
    decodeFrame F =
      .frameCorrupt (frameStart F) (frameEnd F) (frameSiglost F) (frameFailsafe F) (framePayload F) := by
  rw [decodeFrame, if_pos h]

/-- With good markers the failsafe bits choose the row (R87 tests 2 and 3). -/
theorem decodeFrame_of_goodMarkers {F : BitVec 200} (hstart : frameStart F = Config.startMark)
    (hend : frameEnd F = Config.endMark) :
    decodeFrame F = goodFrameRow (frameSiglost F) (frameFailsafe F) (framePayload F) := by
  rw [decodeFrame, if_neg (by simp [hstart, hend])]
  cases frameSiglost F <;> cases frameFailsafe F <;> rfl

theorem decode_encode_goodFrameRow (sl fs : Bool) (p : FramePayload) :
    decode (encode (goodFrameRow sl fs p)) = .ok (goodFrameRow sl fs p) := by
  obtain ⟨hstart, hend, hsl, hfs⟩ := frameWordOf_checks Config.startMark Config.endMark sl fs p
  rw [encode_goodFrameRow, decode, decodeFrame_of_goodMarkers hstart hend, hsl, hfs, framePayload_frameWordOf]

theorem decode_encode_frameCorrupt {start stop : Byte} (h : start ≠ Config.startMark ∨ stop ≠ Config.endMark)
    (sl fs : Bool) (p : FramePayload) :
    decode (encode (.frameCorrupt start stop sl fs p)) = .ok (.frameCorrupt start stop sl fs p) := by
  obtain ⟨hstart, hend, hsl, hfs⟩ := frameWordOf_checks start stop sl fs p
  rw [encode, decode, decodeFrame_of_badMarker (by rwa [hstart, hend]), hstart, hend, hsl, hfs,
    framePayload_frameWordOf]

/-- A frame word has one meaning (R87). -/
theorem encode_decodeFrame (F : BitVec 200) :
    (decodeFrame F).wf = true ∧ encode (decodeFrame F) = .frame F := by
  have hfields := frameWordOf_fields F
  by_cases hbad : frameStart F ≠ Config.startMark ∨ frameEnd F ≠ Config.endMark
  · rw [decodeFrame_of_badMarker hbad, encode, hfields]
    exact ⟨by simpa [Instr.wf] using hbad, rfl⟩
  · obtain ⟨hstart, hend⟩ : frameStart F = Config.startMark ∧ frameEnd F = Config.endMark := by
      simpa only [ne_eq, not_or, not_not] using hbad
    rw [decodeFrame_of_goodMarkers hstart hend, encode_goodFrameRow, ← hstart, ← hend, hfields]
    exact ⟨goodFrameRow_wf _ _ _, rfl⟩

/-! ### The pick words (R89, R174) -/

theorem decode_encode_pick {e : PickEntry} (h : e.wf = true) : decode (encode (.pick e)) = .ok (.pick e) := by
  rw [encode, decode, unpackPick_packPick, if_pos h]

/-- The 54 ROM words of the encoder are those of Table R174. -/
theorem encode_romInstr : ∀ (k : Fin 18) (j : Fin 3), encode (romInstr k j) = .romSlot k j (romWord k j) := by
  decide

theorem romInstr_wf : ∀ (k : Fin 18) (j : Fin 3), (romInstr k j).wf = true := by
  decide

/-- A command word has one meaning (Table R82). -/
theorem encode_decodeCmd (w : CmdWord) : (decodeCmd w).wf = true ∧ encode (decodeCmd w) = .cmd w := by
  rcases decodeCmd_cases w with ⟨rfl, e⟩ | ⟨rfl, e⟩ | ⟨rfl, e⟩ | ⟨rfl, e⟩ <;> rw [e] <;> exact ⟨rfl, rfl⟩

/-! ### The round trips -/

/-- Settles O1, by the rows of the opcode table: the FRAME rows with good markers and with a bad one, the generic PICK row,
and the commands and ROM words, which have no operands and are read back from their tables. -/
theorem decodeAfterEncode : Obligations.DecodeAfterEncode := by
  unfold Obligations.DecodeAfterEncode
  intro i hwf
  cases i with
  | frameSigloss p => exact decode_encode_goodFrameRow true true p
  | frameValid p => exact decode_encode_goodFrameRow false false p
  | frameValidSl p => exact decode_encode_goodFrameRow true false p
  | frameValidFs p => exact decode_encode_goodFrameRow false true p
  | frameCorrupt start stop sl fs p => exact decode_encode_frameCorrupt (by simpa [Instr.wf] using hwf) sl fs p
  | pick e => exact decode_encode_pick hwf
  | _ => rfl

/-- Settles O2, by the place the bits stand in. -/
theorem encodeAfterDecode : Obligations.EncodeAfterDecode := by
  unfold Obligations.EncodeAfterDecode
  intro e i h
  cases e with
  | cmd w =>
    cases h
    exact encode_decodeCmd w
  | frame F =>
    cases h
    exact encode_decodeFrame F
  | romSlot k j w =>
    simp only [decode] at h
    split at h
    · next hw =>
      cases h
      exact ⟨romInstr_wf k j, hw ▸ encode_romInstr k j⟩
    · cases h
  | pickWord w =>
    simp only [decode] at h
    split at h
    · next hwf =>
      cases h
      exact ⟨hwf, by rw [encode, packPick_unpackPick]⟩
    · cases h

/-- Settles O3: the decoder, run on the words. -/
theorem writtenWordsDecode : Obligations.WrittenWordsDecode := by
  unfold Obligations.WrittenWordsDecode
  refine ⟨rfl, rfl, rfl, rfl, ?_, ?_, ?_, rfl, rfl, rfl⟩ <;> decide

/-! ### The host's way in (log 6, log 10) -/

/-- The encoded bits a row's word stands for, once it is within the format's width. -/
def encodedOfWord (f : Format) (w : Nat) : Encoded :=
  match f with
  | .cmd => .cmd (BitVec.ofNat Config.hw.cmdW w)
  | .frame => .frame (BitVec.ofNat 200 w)
  | .pick => locatePick (BitVec.ofNat Config.hw.pickW w)

/-- Bytes of the format's length are read as their number, or rejected for spare bits above the format's width. -/
theorem encodedOfBytes_eq_ok {f : Format} {bs : List Byte} {e : Encoded} (hlen : bs.length = f.bytes)
    (h : encodedOfBytes f bs = .ok e) : e = encodedOfWord f (leNat bs) := by
  cases f <;> simp only [encodedOfBytes, hlen, Format.bytes, ne_eq, not_true_eq_false, if_false] at h
  case cmd =>
    split at h <;> cases h
    rfl
  case frame =>
    cases h
    rfl
  case pick =>
    split at h <;> cases h
    rfl

theorem decode_encodedOfWord {f : Format} {w : Nat} {i : Instr} (hw : w < 256 ^ f.bytes)
    (h : decodeBytes f (leBytes f.bytes w) = .ok i) : decode (encodedOfWord f w) = .ok i := by
  rw [decodeBytes] at h
  cases he : encodedOfBytes f (leBytes f.bytes w) with
  | error err => rw [he] at h; cases h
  | ok e =>
    have hword := encodedOfBytes_eq_ok (leBytes_length _ _) he
    rw [leNat_leBytes _ _ hw] at hword
    rw [he] at h
    exact hword ▸ h

/-- What the host reads from a row's bits: their format, and the instruction its decoder gives for the word. -/
theorem decode_of_decodeTableWord {nbits w : Nat} {i : Instr} (h : decodeTableWord nbits w = some i) :
    ∃ f : Format, formatOfBits nbits = some f ∧ decode (encodedOfWord f w) = .ok i := by
  unfold decodeTableWord at h
  split at h
  · cases h
  · next f hf =>
    split at h
    · next hw =>
      refine ⟨f, hf, decode_encodedOfWord hw ?_⟩
      cases hd : decodeBytes f (leBytes f.bytes w) with
      | error e => rw [hd] at h; cases h
      | ok j => rw [hd] at h; cases h; rfl
    · cases h

/-- At the phase of a pick word the fetch decodes the word where it stands: in its ROM slot, or by itself (log 10). -/
theorem fetchPhase_pickPhase {s : State} {w : PickWord} (h : s.phase = pickPhase w) :
    fetchPhase s = fetchedOf (decode (locatePick w)) s := by
  rw [fetchPhase, h, pickPhase, locatePick]
  cases hslot : uniqueSlot w with
  | none => rfl
  | some slot => rw [← romWord_of_uniqueSlot hslot]

/-- A placed word is the next thing fetched, in its format, whatever the state was (log 6). -/
theorem fetch_withFetchWord (s : State) {nbits : Nat} {f : Format} (hf : formatOfBits nbits = some f) (w : Nat) :
    ∃ u : State, fetch (s.withFetchWord nbits w) = fetchedOf (decode (encodedOfWord f w)) u := by
  rw [State.withFetchWord, hf]
  cases f with
  | cmd => exact ⟨_, rfl⟩
  | frame => exact ⟨_, congrArg (fun F => fetchedOf (decode (.frame F)) _) (frameWord_bufferOf _)⟩
  | pick => exact ⟨_, fetchPhase_pickPhase rfl⟩

/-- Settles O37: the host's decoder and the fetch of the placed word both run `decode` on the same encoded bits. -/
theorem placedWordIsTheOneFetched : Obligations.PlacedWordIsTheOneFetched := by
  unfold Obligations.PlacedWordIsTheOneFetched
  intro s nbits w i h
  obtain ⟨f, hf, hdecode⟩ := decode_of_decodeTableWord h
  obtain ⟨u, hfetch⟩ := fetch_withFetchWord s hf w
  exact ⟨u, by rw [hfetch, hdecode, fetchedOf]⟩

end Sys2Proof.Machine
end

section
/-! The extraction engine as the layout of the frame word gives it (spec/20_memory.md section 2, spec/43_extraction.md
sections 3 to 5): the fields of the frame word, and the pick table as the contiguous 11-bit fields. -/

namespace Sys2Proof.Machine

open Rules

/-! ### The fields of the frame word (R85, R86) -/

/-- Raw channel `k` of the payload, as bits of the frame word (R65, R85). -/
theorem raw_framePayload (F : BitVec 200) {k : Nat} (hk : k < 16) :
    (framePayload F).raw k = F.extractLsb' (8 + 11 * k) 11 := by
  apply BitVec.eq_of_getLsbD_eq
  intro i hi
  simp only [FramePayload.raw, framePayload, BitVec.getLsbD_extractLsb', hi, decide_true, Bool.true_and]
  rw [decide_eq_true (by omega), Bool.true_and, Nat.add_assoc]

/-- The digital bits are bits 0 and 1 of the flags byte (Table R86). -/
theorem framePayload_digital (m : Memory) :
    (framePayload (frameWord m)).d17 = (Memory.read m 23).getLsbD 0 ∧
    (framePayload (frameWord m)).d18 = (Memory.read m 23).getLsbD 1 :=
  ⟨frameWord_bit m 23 0 (by omega) (by omega), frameWord_bit m 23 1 (by omega) (by omega)⟩

/-- The unused bits are bits 7 to 4 of the flags byte (Table R86). -/
theorem framePayload_unused (m : Memory) :
    (framePayload (frameWord m)).unused = (Memory.read m 23).extractLsb' 4 4 := by
  apply BitVec.eq_of_getLsbD_eq
  intro i hi
  simp only [framePayload, BitVec.getLsbD_extractLsb', hi, decide_true, Bool.true_and]
  rw [← frameWord_bit m 23 (4 + i) (by omega) (by omega)]
  congr 1
  omega

/-- Settles O5: `frameWord_byte` for the bytes; the other fields are bits of the word by the same layout. -/
theorem frameWordLayout : Obligations.FrameWordLayout := by
  unfold Obligations.FrameWordLayout
  intro m
  obtain ⟨hd17, hd18⟩ := framePayload_digital m
  exact ⟨frameWord_byte m, fun k hk => raw_framePayload (frameWord m) hk, hd17, hd18, framePayload_unused m⟩

/-! ### The pieces (R172, R175) -/

/-- Settles O6: the 54 entries of the table, computed. -/
theorem romIsGeneratedByLayout : Obligations.RomIsGeneratedByLayout := by
  unfold Obligations.RomIsGeneratedByLayout
  decide

/-- An entry with mask 0 is no special case: its piece is 0 by the formula too (R172). -/
theorem pickPiece_eq (b : Memory) (e : PickEntry) :
    pickPiece b e =
      (((Memory.read b (1 + e.off.toNat) >>> e.rsh.toNat) &&& e.mask).setWidth 11) <<< e.lsh.toNat := by
  rw [pickPiece]
  split
  · next hmask => simp [hmask]
  · rfl

/-- The number of data bits an entry takes, for a mask of low bits. -/
def runLength (e : PickEntry) : Nat := (e.mask.toNat + 1).log2

/-- Bit `i` of the raw value is one of those the entry's piece is put at. -/
abbrev inRun (e : PickEntry) (i : Nat) : Prop := e.lsh.toNat ≤ i ∧ i < e.lsh.toNat + runLength e

/-- Every entry of the table takes a run of bits from within one byte, and puts it where the run stands in the row's field,
counted from bit `11k` of the channel field on (R65, R175 item 1). -/
theorem romEntry_run : ∀ k : Fin 18, k.val < 16 → ∀ j : Fin 3,
    let e := romEntry k j
    e.mask = BitVec.ofNat 8 (2 ^ runLength e - 1) ∧ e.rsh.toNat + runLength e ≤ 8 ∧
    (runLength e = 0 ∨ 8 * e.off.toNat + e.rsh.toNat = 11 * k.val + e.lsh.toNat) := by
  decide

/-- The runs of a row cover its 11 bits (R175 item 2). -/
theorem exists_inRun : ∀ k : Fin 18, k.val < 16 → ∀ i : Fin 11, ∃ j : Fin 3, inRun (romEntry k j) i.val := by
  decide

/-- A piece whose mask is a run of low bits, bit by bit (R172). -/
theorem getLsbD_pickPiece (b : Memory) {e : PickEntry} (hmask : e.mask = BitVec.ofNat 8 (2 ^ runLength e - 1))
    (hbyte : e.rsh.toNat + runLength e ≤ 8) {i : Nat} (hi : i < 11) :
    (pickPiece b e).getLsbD i = true ↔
      inRun e i ∧ (Memory.read b (1 + e.off.toNat)).getLsbD (e.rsh.toNat + (i - e.lsh.toNat)) = true := by
  have hmaskBit (j : Nat) : e.mask.getLsbD j = decide (j < 8 ∧ j < runLength e) := by
    rw [hmask]
    simp [BitVec.getLsbD_ofNat, Nat.testBit_two_pow_sub_one]
  rw [pickPiece_eq, BitVec.getLsbD_shiftLeft, BitVec.getLsbD_setWidth, BitVec.getLsbD_and,
    BitVec.getLsbD_ushiftRight, hmaskBit]
  simp only [Bool.and_eq_true, decide_eq_true_eq, Bool.not_eq_true', decide_eq_false_iff_not]
  constructor
  · rintro ⟨⟨_, hlsh⟩, _, hbit, _, hlen⟩
    exact ⟨⟨by omega, by omega⟩, hbit⟩
  · rintro ⟨⟨hlsh, hlen⟩, hbit⟩
    exact ⟨⟨hi, by omega⟩, by omega, hbit, by omega, by omega⟩

/-- A piece of a row, as bits of the frame word: its run of the field at bit `8 + 11k` (R85, R175). -/
theorem getLsbD_pickPiece_romEntry (b : Memory) {k : Fin 18} (hk : k.val < 16) (j : Fin 3) {i : Nat} (hi : i < 11) :
    (pickPiece b (romEntry k j)).getLsbD i = true ↔
      inRun (romEntry k j) i ∧ (frameWord b).getLsbD (8 + 11 * k.val + i) = true := by
  obtain ⟨hmask, hbyte, hplace⟩ := romEntry_run k hk j
  have hoff := romEntry_off k j
  rw [getLsbD_pickPiece b hmask hbyte hi]
  refine and_congr_right fun ⟨hlsh, hlen⟩ => ?_
  rw [← frameWord_bit b _ _ (by omega) (by omega)]
  have hbit : 8 * (1 + (romEntry k j).off.toNat) + ((romEntry k j).rsh.toNat + (i - (romEntry k j).lsh.toNat)) =
      8 + 11 * k.val + i := by omega
  rw [hbit]

/-- EXTRACT's three turns (R173). -/
theorem rawChannel_eq (b : Memory) (k : Fin 18) :
    rawChannel b k = pickPiece b (romEntry k 0) ||| pickPiece b (romEntry k 1) ||| pickPiece b (romEntry k 2) := by
  simp [rawChannel, List.finRange_succ]

/-- A bit of the raw value is a bit of one of the pieces (R173). -/
theorem getLsbD_rawChannel (b : Memory) (k : Fin 18) (i : Nat) :
    (rawChannel b k).getLsbD i = true ↔ ∃ j : Fin 3, (pickPiece b (romEntry k j)).getLsbD i = true := by
  simp [rawChannel_eq, Fin.exists_fin_succ, or_assoc]

/-- A row of the pick table extracts the row's field: each piece is a run of it, and the runs cover it (R175 item 3). -/
theorem rawChannel_eq_field (b : Memory) {k : Fin 18} (hk : k.val < 16) :
    rawChannel b k = (frameWord b).extractLsb' (8 + 11 * k.val) 11 := by
  apply BitVec.eq_of_getLsbD_eq
  intro i hi
  obtain ⟨j, hj⟩ := exists_inRun k hk ⟨i, hi⟩
  rw [Bool.eq_iff_iff, getLsbD_rawChannel, BitVec.getLsbD_extractLsb', decide_eq_true hi, Bool.true_and]
  constructor
  · rintro ⟨j, hpiece⟩
    exact ((getLsbD_pickPiece_romEntry b hk j hi).mp hpiece).2
  · intro hbit
    exact ⟨j, (getLsbD_pickPiece_romEntry b hk j hi).mpr ⟨hj, hbit⟩⟩

/-- Rows 16 and 17 are empty: all their masks are 0 (R174). -/
theorem rawChannel_of_empty_row (b : Memory) {k : Fin 18} (hk : 16 ≤ k.val) : rawChannel b k = 0 := by
  have hpiece (j : Fin 3) : pickPiece b (romEntry k j) = 0 := by
    rw [pickPiece, if_pos (by rw [romIsGeneratedByLayout.2 k j hk])]
  rw [rawChannel_eq, hpiece, hpiece, hpiece]
  rfl

/-- Settles O7: `rawChannel_eq_field` for the rows of the matrix channels, and the two empty rows. -/
theorem pickTableEqualsChannelField : Obligations.PickTableEqualsChannelField := by
  unfold Obligations.PickTableEqualsChannelField
  exact fun b k => ⟨rawChannel_eq_field b, rawChannel_of_empty_row b⟩

/-! ### The PICK rows (R172, R173) -/

/-- One turn of EXTRACT's loop, with the piece written out (R172). -/
theorem accumulate_eq_withPiece (e : PickEntry) (s : State) :
    accumulate e s = withPiece s e.off.toNat e.rsh.toNat e.mask e.lsh.toNat := rfl

/-- Settles O12: a word that is not reserved is well formed, and its row is one turn of EXTRACT's loop. -/
theorem pickWordPiece : Obligations.PickWordPiece := by
  unfold Obligations.PickWordPiece
  intro e s hres
  rw [exec_pick, if_pos ((pickEntry_wf_iff e).mpr hres), accumulate_eq_withPiece]

/-- The row of a ROM slot, with the piece of the slot's entry written out (R172, R174). -/
theorem exec_romInstr_eq_withPiece (s : State) (k : Fin 18) (j : Fin 3) :
    let e := romEntry k j
    exec (romInstr k j) s = .next (withPiece s e.off.toNat e.rsh.toNat e.mask e.lsh.toNat) :=
  exec_romInstr k j s

/-- Settles O13: each row is its slot's, and the four numbers of Table R174 are the fields of that slot's word. -/
theorem romWordPieces : Obligations.RomWordPieces := by
  unfold Obligations.RomWordPieces
  intro s
  have row := exec_romInstr_eq_withPiece s
  exact ⟨row 0 0, row 0 1, row 0 2, row 1 0, row 1 1, row 1 2, row 2 0, row 2 1, row 2 2,
    row 3 0, row 3 1, row 3 2, row 4 0, row 4 1, row 4 2, row 5 0, row 5 1, row 5 2,
    row 6 0, row 6 1, row 6 2, row 7 0, row 7 1, row 7 2, row 8 0, row 8 1, row 8 2,
    row 9 0, row 9 1, row 9 2, row 10 0, row 10 1, row 10 2, row 11 0, row 11 1, row 11 2,
    row 12 0, row 12 1, row 12 2, row 13 0, row 13 1, row 13 2, row 14 0, row 14 1, row 14 2,
    row 15 0, row 15 1, row 15 2, row 16 0, row 16 1, row 16 2, row 17 0, row 17 1, row 17 2⟩

/-- The three turns of a row's loop from `value` 0 leave its raw value (R173). -/
theorem accumulate_row {s : State} (h : s.value = 0) (k : Fin 18) :
    accumulate (romEntry k 2) (accumulate (romEntry k 1) (accumulate (romEntry k 0) s)) =
      { s with value := rawChannel s.buf k } := by
  simp only [accumulate, h, rawChannel_eq, BitVec.ofNat_eq_ofNat, BitVec.zero_or]

/-- Settles O14: the three words are the turns of the row's loop, and the raw value they leave is the row's field. -/
theorem rowOfPicksGivesRawValue : Obligations.RowOfPicksGivesRawValue := by
  unfold Obligations.RowOfPicksGivesRawValue
  intro k s hvalue
  refine ⟨_, _, exec_romInstr k 0 s, exec_romInstr k 1 _, ?_⟩
  rw [exec_romInstr, accumulate_row hvalue]
  split
  · next hk => rw [rawChannel_eq_field s.buf hk]
  · next hk => rw [rawChannel_of_empty_row s.buf (by omega)]

end Sys2Proof.Machine
end

section
/-! The frames a POLL completes (spec/42_validator.md section 3, spec/43_extraction.md section 9): the record of a VALID frame
from its own bits, the class of a completed frame, and the conditions a POLL notes (spec/60_exceptions.md). -/

namespace Sys2Proof.Machine

open Rules

/-! ### The FRAME rows (R152, R180) -/

/-- A CORRUPT frame is the absorbed condition MALFORMED_FRAME, whatever its bits (R152, Table R211). -/
theorem exec_frameCorrupt (start stop : Byte) (siglost failsafe : Bool) (p : FramePayload) (s : State) :
    exec (.frameCorrupt start stop siglost failsafe p) s = .next (absorb .malformedFrame s) := rfl

/-- Settles O15: the row absorbs MALFORMED_FRAME, whose one drop wraps with the counter (R26). -/
theorem corruptFrameCountsOneDrop : Obligations.CorruptFrameCountsOneDrop := by
  unfold Obligations.CorruptFrameCountsOneDrop
  intro start stop siglost failsafe p s
  have hdrop : s.dropcnt + 1 = BitVec.ofNat 32 (s.dropcnt.toNat + 1) := by
    apply BitVec.eq_of_toNat_eq
    rw [BitVec.toNat_ofNat]
    exact BitVec.toNat_add s.dropcnt 1
  rw [exec_frameCorrupt, absorb, hdrop]

/-- A VALID record shows the raw values of the 16 matrix channels alone. -/
theorem validState_congr {raw raw' : Nat → BitVec 11} (h : ∀ k : Nat, k < 16 → raw k = raw' k) (s : State) (t : Time)
    (d17 d18 : Bool) : validState s t raw d17 d18 = validState s t raw' d17 d18 := by
  have hch : validChannels raw d17 d18 = validChannels raw' d17 d18 := by
    refine congrArg Vector.ofFn (funext fun k => ?_)
    split
    · next hmatrix => rw [h k.val hmatrix]
    · rfl
  simp only [validState, hch]

/-- The channels of a VALID frame: the table's raw values are the fields of the frame word (R175, R176, R177). -/
theorem publish_ch_eq_validChannels (b : Memory) (s : State) :
    (publish b s).ch =
      validChannels (framePayload (frameWord b)).raw (framePayload (frameWord b)).d17 (framePayload (frameWord b)).d18 := by
  obtain ⟨hd17, hd18⟩ := framePayload_digital b
  apply Vector.ext
  intro k hk
  have hregister := channel_eq b s.ch ⟨k, hk⟩
  simp only [Fin.getElem_fin] at hregister
  rw [publish_ch, hregister, validChannels, Vector.getElem_ofFn, hd17, hd18, digital_eq, digital_eq]
  dsimp only
  by_cases hmatrix : k < 16
  · rw [if_neg (by omega), if_neg (by omega), if_pos hmatrix, rawChannel_eq_field b hmatrix,
      raw_framePayload _ hmatrix]
    rfl
  · by_cases h16 : k = 16
    · rw [if_neg (by omega), if_pos h16, if_neg hmatrix, if_pos h16]
    · rw [if_pos (by omega), if_neg hmatrix, if_neg h16]

/-- The class VALID as a whole, from the bits of the frame word (R180). -/
theorem publish_eq_validState (b : Memory) (s : State) :
    publish b s =
      validState s s.nowLatch (framePayload (frameWord b)).raw (framePayload (frameWord b)).d17
        (framePayload (frameWord b)).d18 := by
  rw [validState, ← publish_ch_eq_validChannels b s]
  rfl

/-- Settles O17: each row publishes the buffer of a word put together from the payload. -/
theorem validFrameWritesRecord : Obligations.ValidFrameWritesRecord := by
  unfold Obligations.ValidFrameWritesRecord
  intro p s
  have hrecord (sl fs : Bool) :
      publish (bufferOf (frameWordOf Config.startMark Config.endMark sl fs p)) s =
        validState s s.nowLatch p.raw p.d17 p.d18 := by
    rw [publish_eq_validState, frameWord_bufferOf, framePayload_frameWordOf]
  exact ⟨congrArg Host.Outcome.next (hrecord false false), congrArg Host.Outcome.next (hrecord true false),
    congrArg Host.Outcome.next (hrecord false true)⟩

/-! ### A POLL that completes a frame (R136, R156) -/

/-- The state after INTAKE, once the frame is complete (R132, R134). -/
theorem pollFilled_of_completed_frame {s : State} (hfull : accAtRead s + (bytesRead s).length = 25) :
    pollFilled s = afterRead s 25 := by
  rw [pollFilled_eq, hfull]
  rfl

/-- DISPATCH and LOCKEVAL on the state after INTAKE, by the formulas of R130 to R134. -/
theorem exec_poll_of_completed_frame {s : State} (hbytes : bytesRead s ≠ [])
    (hfull : accAtRead s + (bytesRead s).length = 25) :
    exec .poll s = .next (updateLock (releaseBuffer (decodeBuffer (bufAfterRead s) (afterRead s 25)))) := by
  have hfilled := pollFilled_of_completed_frame hfull
  rw [exec_poll, execPoll_of_full (by rwa [pollBytes_eq_bytesRead]) (by rw [hfilled]; rfl), hfilled]
  rfl

/-- The end of a POLL whose frame is VALID: the record of the frame word, with the lock on (R116 item 5, R180). -/
theorem endOfValidFrame (b : Memory) (s : State) :
    updateLock (releaseBuffer (publish b s)) =
      { validState s s.nowLatch (framePayload (frameWord b)).raw (framePayload (frameWord b)).d17
          (framePayload (frameWord b)).d18 with acc := 0, locked := true } := by
  have hlock : lockEval (releaseBuffer (publish b s)) = true := lockEval_publish b s
  rw [updateLock, hlock, releaseBuffer, publish_eq_validState]

/-- Settles O22, along the three ways DECODE ends (`decodeBuffer_cases`). -/
theorem pollCompletingFrame : Obligations.PollCompletingFrame := by
  unfold Obligations.PollCompletingFrame
  intro s hbytes hfull
  dsimp only
  rw [exec_poll_of_completed_frame hbytes hfull]
  simp only [← markersBad_iff, ← failsafeBoth_iff]
  rcases decodeBuffer_cases (bufAfterRead s) (afterRead s 25) with ⟨hm, e⟩ | ⟨hm, hf, e⟩ | ⟨hm, hf, e⟩ <;> rw [e]
  · rw [if_pos hm]
    rfl
  · rw [if_neg (by simp [hm]), if_pos hf]
    rfl
  · obtain ⟨hd17, hd18⟩ := framePayload_digital (bufAfterRead s)
    rw [if_neg (by simp [hm]), if_neg (by simp [hf]), endOfValidFrame, ← hd17, ← hd18,
      validState_congr (fun k hk => raw_framePayload (frameWord (bufAfterRead s)) hk)]
    rfl

/-- Settles O23: the FRAME row of the buffer's word is DECODE on that buffer (`exec_decodeFrame`), and LOCKEVAL looks at
the `now` that DECODE leaves latched. -/
theorem pollRunsTheFrameRow : Obligations.PollRunsTheFrameRow := by
  unfold Obligations.PollRunsTheFrameRow
  intro s hbytes hfull
  refine ⟨_, _, rfl, exec_decodeFrame (bufAfterRead s) (afterRead s 25), ?_⟩
  obtain ⟨_, _, _, _, _, hlatch, _⟩ := decodeBuffer_frame (bufAfterRead s) (afterRead s 25)
  have hnow : s.nowIn = (decodeBuffer (bufAfterRead s) (afterRead s 25)).nowLatch := hlatch.symm
  rw [exec_poll_of_completed_frame hbytes hfull, hnow]
  rfl

/-! ### The conditions of a POLL (R211, R216) -/

variable (s : State)

/-- A POLL that reads bytes leaves at most a full frame (R67). -/
theorem frame_complete_or_incomplete (hbytes : bytesRead s ≠ []) :
    accAtRead s + (bytesRead s).length < 25 ∨ accAtRead s + (bytesRead s).length = 25 := by
  have hpos := List.length_pos_iff.mpr hbytes
  have ⟨hrequest, _⟩ := length_bytesRead_le s
  omega

/-- FRAME_TIMEOUT is noted when GAPCHK fires (Table R211). -/
theorem frameTimeout_mem_pollConditions : .frameTimeout ∈ pollConditions s ↔ gateFires s := by
  rw [← timeoutDrop_iff, pollConditions]
  cases timeoutDrop s <;> cases pollOutcome s <;> simp

/-- The other three conditions go with the outcome label (R115, Table R211). -/
theorem mem_pollConditions_iff_outcome :
    (.readEmpty ∈ pollConditions s ↔ pollOutcome s = .idle) ∧
    (.malformedFrame ∈ pollConditions s ↔ pollOutcome s = .corrupt) ∧
    (.signalLoss ∈ pollConditions s ↔ pollOutcome s = .sigloss) := by
  rw [pollConditions]
  cases timeoutDrop s <;> cases pollOutcome s <;> simp

/-- The order of the tests of a POLL, each made at most once (R216). -/
theorem pollConditions_sublist :
    (pollConditions s).Sublist [.frameTimeout, .readEmpty, .malformedFrame, .signalLoss] := by
  rw [pollConditions]
  cases timeoutDrop s <;> cases pollOutcome s <;> decide

/-- Settles O29: the gate by R131's formula; the other conditions by the outcome label of a POLL that reads nothing, leaves
the frame incomplete, or completes it. -/
theorem conditionsOfAPoll : Obligations.ConditionsOfAPoll := by
  unfold Obligations.ConditionsOfAPoll
  intro s
  dsimp only
  obtain ⟨hempty, hmalformed, hloss⟩ := mem_pollConditions_iff_outcome s
  rw [hempty, hmalformed, hloss]
  refine ⟨frameTimeout_mem_pollConditions s, ?_⟩
  rw [← and_assoc, ← and_assoc]
  refine ⟨?_, pollConditions_sublist s⟩
  by_cases hbytes : bytesRead s = []
  · have hidle : pollOutcome s = .idle := by rw [pollOutcome_eq, if_pos hbytes]
    simp [hidle, hbytes]
  · rcases frame_complete_or_incomplete s hbytes with hpart | hfull
    · have hincomplete : pollOutcome s = .incomplete := by
        rw [pollOutcome_eq, if_neg hbytes, if_pos hpart]
      simp [hincomplete, hbytes, hpart.ne]
    · rw [pollOutcome_of_full (by rwa [pollBytes_eq_bytesRead]) (by rw [pollFilled_of_completed_frame hfull]; rfl),
        pollFilled_buf_eq_bufAfterRead]
      simp only [← markersBad_iff, ← failsafeBoth_iff]
      cases markersBad (bufAfterRead s) <;> cases failsafeBoth (bufAfterRead s) <;> simp [hbytes, hfull]

end Sys2Proof.Machine
end

section
/-! Whole frames through POLL: a frame read in two parts (spec/95_test_vectors.md V46), and a frame the encoder FRAME25
builds (spec/95_test_vectors.md section 2). -/

namespace Sys2Proof.Machine

open Rules

/-! ### What a POLL reads when its gate does not fire (R131, R132) -/

/-- An empty buffer has no partial frame to abandon (R131). -/
theorem not_gateFires_of_empty {s : State} (h : s.acc = 0) : ¬ gateFires s := by
  rintro ⟨_, hacc⟩
  simp [h] at hacc

section GateHolds

variable {s : State} {rx more : List Byte} (hgate : ¬ gateFires s) (hsrc : s.src = rx ++ more)
  (hlen : min s.srcGrant (25 - s.acc.toNat) = rx.length)

include hgate in
theorem accAtRead_of_not_gateFires : accAtRead s = s.acc.toNat := if_neg hgate

include hgate hsrc hlen

/-- A POLL reads as many of the oldest bytes as the grant and the request allow (R67). -/
theorem bytesRead_eq : bytesRead s = rx := by
  rw [bytesRead, accAtRead_of_not_gateFires hgate, hlen, hsrc, List.take_left]

/-- INTAKE of the bytes `rx`, with no partial frame abandoned before it (R132, R134). -/
theorem afterRead_eq (acc : ByteCount) :
    afterRead s acc = { s with
      nowLatch := s.nowIn
      reportDue := false
      buf := Memory.writeBytes s.buf s.acc.toNat rx
      lastByteTime := s.nowIn
      acc := acc
      src := more } := by
  rw [afterRead, bufAfterRead, gateDrop, if_neg hgate, accAtRead_of_not_gateFires hgate,
    bytesRead_eq hgate hsrc hlen, hsrc, List.drop_left]
  simp only [BitVec.ofNat_eq_ofNat, BitVec.add_zero]

/-- The POLL that reads the rest of a frame decodes it (R136). -/
theorem exec_poll_of_rest (hrx : rx ≠ []) (hfull : s.acc.toNat + rx.length = 25) :
    exec .poll s = .next (updateLock (releaseBuffer
      (decodeBuffer (Memory.writeBytes s.buf s.acc.toNat rx) (afterRead s 25)))) := by
  have hbytes := bytesRead_eq hgate hsrc hlen
  have hacc := accAtRead_of_not_gateFires hgate
  rw [exec_poll_of_completed_frame (by rwa [hbytes]) (by rwa [hbytes, hacc]), bufAfterRead, hbytes, hacc]

end GateHolds

/-! ### A frame in two parts (95 V46) -/

/-- Two streams, the second from where the first ends, are one stream (R132). -/
theorem Memory.writeBytes_append (m : Memory) (a : Nat) (xs ys : List Byte) :
    Memory.writeBytes m a (xs ++ ys) = Memory.writeBytes (Memory.writeBytes m a xs) (a + xs.length) ys := by
  induction xs generalizing m a with
  | nil => rfl
  | cons x xs ih =>
    rw [List.cons_append, Memory.writeBytes, ih, Memory.writeBytes, List.length_cons, Nat.add_assoc, Nat.add_comm 1]

/-- The end of a POLL does not look at the lock register it writes (R137). -/
theorem endOfFrame_withLocked (b : Memory) (s : State) (l : Bool) :
    updateLock (releaseBuffer (decodeBuffer b { s with locked := l })) =
      updateLock (releaseBuffer (decodeBuffer b s)) := by
  simp only [decodeBuffer]
  split
  · rfl
  · split <;> rfl

/-- The state a first part `xs` of a frame leaves in an empty buffer, with `ys` still in the source (R132, R135). -/
def firstPartRead (s : State) (xs ys : List Byte) : State :=
  { s with
    nowLatch := s.nowIn
    reportDue := false
    buf := Memory.writeBytes s.buf 0 xs
    lastByteTime := s.nowIn
    acc := BitVec.ofNat 5 xs.length
    src := ys
    locked := lockAt s.goodValid s.lastGoodTime s.nowIn }

/-- A POLL into an empty buffer that is given only the first part of a frame. -/
theorem exec_poll_firstPart {s : State} {xs ys : List Byte} (hacc : s.acc = 0) (hxs : xs ≠ []) (hpart : xs.length < 25)
    (hsrc : s.src = xs ++ ys) (hgrant : s.srcGrant = xs.length) :
    exec .poll s = .next (firstPartRead s xs ys) := by
  have hgate := not_gateFires_of_empty hacc
  have hlen : min s.srcGrant (25 - s.acc.toNat) = xs.length := by
    simp only [hacc, hgrant, BitVec.ofNat_eq_ofNat, BitVec.toNat_ofNat]
    omega
  have hbytes := bytesRead_eq hgate hsrc hlen
  have hcount : accAtRead s + (bytesRead s).length = xs.length := by
    rw [accAtRead_of_not_gateFires hgate, hbytes, hacc]
    exact Nat.zero_add _
  rw [pollAccumulating s (by rwa [hbytes]) (by rwa [hcount]), hcount, afterRead_eq hgate hsrc hlen, hacc]
  rfl

/-- The count of a first part: less than a frame, it does not wrap (R134). -/
theorem toNat_firstPartRead_acc (s : State) {xs : List Byte} (hpart : xs.length < 25) (ys : List Byte) :
    (firstPartRead s xs ys).acc.toNat = xs.length := by
  show xs.length % 2 ^ 5 = xs.length
  omega

/-- The second part is stored where the first one ends (R132). -/
theorem writeBytes_firstPartRead {s : State} {xs : List Byte} (hacc : s.acc = 0) (hpart : xs.length < 25)
    (ys : List Byte) :
    Memory.writeBytes (firstPartRead s xs ys).buf (firstPartRead s xs ys).acc.toNat ys =
      Memory.writeBytes s.buf s.acc.toNat (xs ++ ys) := by
  rw [Memory.writeBytes_append, toNat_firstPartRead_acc s hpart, hacc]
  exact congrArg (Memory.writeBytes _ · ys) (Nat.zero_add _).symm

/-- Settles O30: INTAKE of the second part leaves the state INTAKE of the whole frame leaves, but for the lock register,
which LOCKEVAL writes over. -/
theorem splitOfFrameIsInvisible : Obligations.SplitOfFrameIsInvisible := by
  unfold Obligations.SplitOfFrameIsInvisible
  intro s xs ys t2 hacc hxs hys hlen hsrc hgrant hgap
  have hparts : xs.length + ys.length = 25 := by rwa [List.length_append] at hlen
  have hpart : xs.length < 25 := by
    have hy := List.length_pos_iff.mpr hys
    omega
  have haccSplit := toNat_firstPartRead_acc s hpart ys
  have hgateSplit : ¬ gateFires { firstPartRead s xs ys with nowIn := t2, srcGrant := 25 } :=
    fun hfires => absurd hfires.1 (Nat.not_lt.mpr hgap)
  have hsrcSplit : (firstPartRead s xs ys).src = ys ++ [] := (List.append_nil ys).symm
  have hlenSplit : min 25 (25 - (firstPartRead s xs ys).acc.toNat) = ys.length := by omega
  have hgateWhole : ¬ gateFires { s with nowIn := t2, srcGrant := 25 } := not_gateFires_of_empty hacc
  have hsrcWhole : s.src = xs ++ ys ++ [] := by rwa [List.append_nil]
  have hlenWhole : min 25 (25 - s.acc.toNat) = (xs ++ ys).length := by simp [hacc, hparts]
  have hbuf := writeBytes_firstPartRead hacc hpart ys
  have hfilled : afterRead { firstPartRead s xs ys with nowIn := t2, srcGrant := 25 } 25 =
      { afterRead { s with nowIn := t2, srcGrant := 25 } 25 with locked := (firstPartRead s xs ys).locked } := by
    rw [afterRead_eq hgateSplit hsrcSplit hlenSplit, afterRead_eq hgateWhole hsrcWhole hlenWhole, ← hbuf]
    rfl
  refine ⟨_, _, exec_poll_firstPart hacc hxs hpart hsrc hgrant,
    exec_poll_of_rest hgateSplit hsrcSplit hlenSplit hys (by simp only [haccSplit]; omega), ?_⟩
  rw [exec_poll_of_rest hgateWhole hsrcWhole hlenWhole (by simp [hxs]) (by simp [hacc, hparts]), hfilled, ← hbuf]
  exact congrArg Host.Outcome.next (endOfFrame_withLocked _ _ _).symm

/-! ### The frame encoder (95_test_vectors section 2) -/

/-- The payload of FRAME25's frame: the packed raw values, and the flags byte without the failsafe bits (Table R86). -/
def frame25Payload (raw : Vector (BitVec 11) 16) (flags : Byte) : FramePayload where
  chfield := BitVec.ofNat 176 (packRaw raw.toList)
  d17 := flags.getLsbD 0
  d18 := flags.getLsbD 1
  unused := flags.extractLsb' 4 4

/-- The frame word FRAME25 builds, from the fields of R84 to R86. -/
def frame25Word (raw : Vector (BitVec 11) 16) (flags start stop : Byte) : BitVec 200 :=
  frameWordOf start stop (flags.getLsbD 2) (flags.getLsbD 3) (frame25Payload raw flags)

/-- A flags byte is its five fields, one after the other (Table R86). -/
theorem flagsByte_fields (flags : Byte) :
    flags.extractLsb' 4 4 ++ BitVec.ofBool (flags.getLsbD 3) ++ BitVec.ofBool (flags.getLsbD 2) ++
      BitVec.ofBool (flags.getLsbD 1) ++ BitVec.ofBool (flags.getLsbD 0) = flags := by
  revert flags
  decide

/-- Two words side by side, as numbers. -/
theorem toNat_append_eq_add {m n : Nat} (x : BitVec m) (y : BitVec n) :
    (x ++ y).toNat = x.toNat * 2 ^ n + y.toNat := by
  rw [BitVec.toNat_append, ← Nat.shiftLeft_add_eq_or_of_lt y.isLt, Nat.shiftLeft_eq]

theorem packRaw_toList_lt (raw : Vector (BitVec 11) 16) : packRaw raw.toList < 2 ^ 176 := by
  have hlt := packRaw_lt raw.toList
  rwa [Vector.length_toList] at hlt

/-- FRAME25's sum is the frame word of its fields (R85). -/
theorem toNat_frame25Word (raw : Vector (BitVec 11) 16) (flags start stop : Byte) :
    (frame25Word raw flags start stop).toNat =
      start.toNat + packRaw raw.toList * 2 ^ 8 + flags.toNat * 2 ^ 184 + stop.toNat * 2 ^ 192 := by
  have hraw : (BitVec.ofNat 176 (packRaw raw.toList)).toNat = packRaw raw.toList :=
    Nat.mod_eq_of_lt (packRaw_toList_lt raw)
  have hflags := flagsByte_fields flags
  rw [frame25Word, frameWordOf, frame25Payload]
  dsimp only
  rw [hflags, toNat_append_eq_add, toNat_append_eq_add, toNat_append_eq_add, hraw]
  omega

theorem frame25_eq (raw : Vector (BitVec 11) 16) (flags start stop : Byte) :
    frame25 raw flags start stop = leBytes 25 (frame25Word raw flags start stop).toNat := by
  rw [frame25, toNat_frame25Word]

/-- Raw channel `k` of the frame is the value that was encoded (R65). -/
theorem raw_frame25Payload (raw : Vector (BitVec 11) 16) (flags : Byte) (k : Fin 16) :
    (frame25Payload raw flags).raw k.val = raw[k] := by
  apply BitVec.eq_of_getLsbD_eq
  intro i hi
  have hk := k.isLt
  have hbit := testBit_packRaw raw.toList k.val i (by rw [Vector.length_toList]; exact hk) hi
  rw [FramePayload.raw, BitVec.getLsbD_extractLsb', frame25Payload, BitVec.getLsbD_ofNat, hbit]
  rw [decide_eq_true hi, decide_eq_true (by omega), Bool.true_and, Bool.true_and, Vector.getElem_toList]
  rfl

/-- A buffer filled with a whole frame holds that frame's word (R85, R132). -/
theorem frameWord_writeBytes_leBytes (m : Memory) (F : BitVec 200) :
    frameWord (Memory.writeBytes m 0 (leBytes 25 F.toNat)) = F := by
  have hlen := leBytes_length 25 F.toNat
  have hbytes : Memory.bytes (Memory.writeBytes m 0 (leBytes 25 F.toNat)) = leBytes 25 F.toNat := by
    apply List.ext_getElem
    · rw [Memory.bytes_length, hlen]
    · intro i _ hi
      rw [Memory.bytes_getElem]
      simpa using Memory.read_writeBytes_inside m 0 i _ hi
  apply BitVec.eq_of_toNat_eq
  rw [toNat_frameWord, hbytes]
  exact leNat_leBytes 25 _ F.isLt

/-- A buffer with good markers and not both failsafe bits holds a VALID frame (R156). -/
theorem decodeBuffer_of_valid {b : Memory} {sl fs : Bool} {p : FramePayload} (hboth : ¬ (sl = true ∧ fs = true))
    (hword : frameWord b = frameWordOf Config.startMark Config.endMark sl fs p) (s : State) :
    decodeBuffer b s = publish b s := by
  obtain ⟨hstart, hend, hsl, hfs⟩ := frameWordOf_checks Config.startMark Config.endMark sl fs p
  rw [← hword] at hstart hend hsl hfs
  have hgood : ¬ markersBad b = true := by
    rw [markersBad_eq, hstart, hend]
    simp
  have hnotBoth : ¬ failsafeBoth b = true := by
    rw [failsafeBoth_eq, hsl, hfs, Bool.and_eq_true]
    exact hboth
  rw [decodeBuffer, if_neg hgood, if_neg hnotBoth]

/-- The registers of a VALID record as numbers (R176, R177). -/
theorem toNat_validChannels (raw : Nat → BitVec 11) (d17 d18 : Bool) :
    (∀ (k : Nat) (hk : k < 16), ((validChannels raw d17 d18)[k]).toNat = (raw k).toNat / 2 + 998) ∧
    ((validChannels raw d17 d18)[16]).toNat = (if d17 then 1998 else 998) ∧
    ((validChannels raw d17 d18)[17]).toNat = (if d18 then 1998 else 998) := by
  refine ⟨fun k hk => ?_, ?_, ?_⟩
  · rw [validChannels, Vector.getElem_ofFn, if_pos hk]
    exact toNat_normChannel (raw k)
  · rw [validChannels, Vector.getElem_ofFn]
    cases d17 <;> rfl
  · rw [validChannels, Vector.getElem_ofFn]
    cases d18 <;> rfl

/-- A POLL into an empty buffer that reads a whole frame of the encoder, not SIGLOSS, leaves that frame's record. -/
theorem exec_poll_frame25 {raw : Vector (BitVec 11) 16} {flags : Byte} {more : List Byte} {s : State}
    (hboth : ¬ (flags.getLsbD 2 = true ∧ flags.getLsbD 3 = true)) (hacc : s.acc = 0)
    (hsrc : s.src = frame25 raw flags 0x0F 0x00 ++ more) (hgrant : 25 ≤ s.srcGrant) :
    exec .poll s = .next { validState (afterRead s 25) s.nowIn (frame25Payload raw flags).raw (flags.getLsbD 0)
      (flags.getLsbD 1) with acc := 0, locked := true } ∧
    (afterRead s 25).dropcnt = s.dropcnt ∧ (afterRead s 25).src = more := by
  have hgate := not_gateFires_of_empty hacc
  have hframe : (frame25 raw flags 0x0F 0x00).length = 25 := leBytes_length 25 _
  have hlen : min s.srcGrant (25 - s.acc.toNat) = (frame25 raw flags 0x0F 0x00).length := by
    rw [hframe, hacc]
    exact Nat.min_eq_right hgrant
  have hword : frameWord (Memory.writeBytes s.buf s.acc.toNat (frame25 raw flags 0x0F 0x00)) =
      frame25Word raw flags 0x0F 0x00 := by
    rw [hacc, frame25_eq]
    exact frameWord_writeBytes_leBytes s.buf _
  refine ⟨?_, by rw [afterRead_eq hgate hsrc hlen], by rw [afterRead_eq hgate hsrc hlen]⟩
  rw [exec_poll_of_rest hgate hsrc hlen (List.ne_nil_of_length_pos (by omega)) (by rw [hframe, hacc]; rfl),
    decodeBuffer_of_valid hboth hword, endOfValidFrame, hword, frame25Word, framePayload_frameWordOf]
  rfl

/-- Settles O31: the record is that of FRAME25's payload, whose raw channels are the encoded ones. -/
theorem encodedFrameIsRecovered : Obligations.EncodedFrameIsRecovered := by
  unfold Obligations.EncodedFrameIsRecovered
  intro raw flags more s hboth hacc hsrc hgrant
  obtain ⟨hexec, hdrop, hmore⟩ := exec_poll_frame25 hboth hacc hsrc hgrant
  obtain ⟨hmatrix, h16, h17⟩ :=
    toNat_validChannels (frame25Payload raw flags).raw (flags.getLsbD 0) (flags.getLsbD 1)
  refine ⟨_, hexec, fun k => ?_, h16, h17, rfl, rfl, rfl, rfl, rfl, hdrop, hmore⟩
  rw [← raw_frame25Payload raw flags k]
  exact hmatrix k.val k.isLt

end Sys2Proof.Machine
end

section
/-! Steps (spec/40_commands.md, spec/70_reset_and_hazards.md): what a step runs, what a hardware reset leaves, which steps
write the record, and elapsed time across a wrap of the clock (spec/41_synchronizer.md section 6). -/

namespace Sys2Proof.Machine

open Rules

/-! ### What a step runs (R81, R136, R173) -/

/-- Settles O34: the equation of an offered command, whose word decodes to one instruction. -/
theorem stepRunsTheOfferedCommand : Obligations.StepRunsTheOfferedCommand := by
  unfold Obligations.StepRunsTheOfferedCommand
  intro s r rest i hph hp hdecode
  cases hdecode
  exact step_idle_of_command hph hp

/-- A step whose phase finds an instruction runs it, with the pulse of the step before ended, and closes the phase. -/
theorem step_of_fetchPhase {s u : State} {d : Except DecodeError Instr} {i : Instr} (hrst : ¬ takesReset s)
    (hfetch : fetchPhase (lowerReport s) = fetchedOf d (lowerReport s)) (hdecode : d = .ok i)
    (hexec : exec i (lowerReport s) = .next u) : step s = .next (close s.phase u) := by
  have hrun : fetch s = .run i (lowerReport s) := by
    rw [fetch_of_not_takesReset hrst, hfetch, hdecode, fetchedOf]
  rw [step_of_fetch_run hrun, hexec, closeOutcome]

/-- Settles O35: the phase fetches the frame word in BUF, and closing it is the release of the buffer and LOCKEVAL. -/
theorem stepRunsTheBufferedFrame : Obligations.StepRunsTheBufferedFrame := by
  unfold Obligations.StepRunsTheBufferedFrame
  intro s i u hph hrst hdecode hexec
  have hfetch : fetchPhase (lowerReport s) = fetchedOf (decode (.frame (frameWord s.buf))) (lowerReport s) := by
    simp only [fetchPhase, lowerReport, hph]
  rw [step_of_fetchPhase hrst hfetch hdecode hexec, hph]
  rfl

/-- Settles O36: both phases fetch the pick word they hold, and closing them makes the sequencer idle. -/
theorem stepRunsThePickWord : Obligations.StepRunsThePickWord := by
  unfold Obligations.StepRunsThePickWord
  intro s i u hrst hexec
  constructor
  · intro k j hph hdecode
    have hfetch : fetchPhase (lowerReport s) = fetchedOf (decode (.romSlot k j (romWord k j))) (lowerReport s) := by
      simp only [fetchPhase, lowerReport, hph]
    rw [step_of_fetchPhase hrst hfetch hdecode hexec, hph, close]
  · intro w hph hdecode
    have hfetch : fetchPhase (lowerReport s) = fetchedOf (decode (.pickWord w)) (lowerReport s) := by
      simp only [fetchPhase, lowerReport, hph]
    rw [step_of_fetchPhase hrst hfetch hdecode hexec, hph, close]

/-! ### Hardware reset (R240) -/

/-- The channel registers all at 0, channel by channel. -/
theorem replicate_zero_eq_ofFn : (Vector.replicate 18 0 : Vector ChannelValue 18) = Vector.ofFn fun _ => 0 := by
  apply Vector.ext
  intro k hk
  rw [Vector.getElem_replicate, Vector.getElem_ofFn]

/-- Settles O11: the reset state by its fields; a step that takes `rst` is `hardReset`, at any phase. -/
theorem hardwareReset : Obligations.HardwareReset := by
  unfold Obligations.HardwareReset
  refine ⟨⟨rfl, rfl, rfl, rfl, rfl, fun k => ?_, rfl, rfl, rfl, rfl, rfl, rfl⟩, fun s popped rest hp => ?_⟩
  · exact Vector.getElem_replicate k.isLt
  · rw [step_of_reset hp, hardReset, clearRegisters, replicate_zero_eq_ofFn]

/-! ### The record between VALID frames (R24, R25, R27, R29) -/

/-- What only a VALID frame, REINIT and reset write: the good-frame time, its valid bit, the channels, the record's time. -/
def RecordKept (s t : State) : Prop :=
  t.lastGoodTime = s.lastGoodTime ∧ t.goodValid = s.goodValid ∧ t.ch = s.ch ∧ t.frameTs = s.frameTs

theorem RecordKept.trans {s t u : State} (htu : RecordKept t u) (hst : RecordKept s t) : RecordKept s u := by
  obtain ⟨htime, hvalid, hch, hts⟩ := htu
  obtain ⟨htime', hvalid', hch', hts'⟩ := hst
  exact ⟨htime.trans htime', hvalid.trans hvalid', hch.trans hch', hts.trans hts'⟩

/-- The end of a POLL does not write the record (R136, R137). -/
theorem RecordKept.releaseBuffer {s t : State} (h : RecordKept s t) : RecordKept s (releaseBuffer t) := h

theorem RecordKept.updateLock {s t : State} (h : RecordKept s t) : RecordKept s (updateLock t) := h

/-- SAMPLE and GAPCHK do not write the record (R131), and neither does INTAKE (R132). -/
theorem RecordKept.pollGated (s : State) : RecordKept s (pollGated s) := by
  rw [pollGated_eq]
  exact ⟨rfl, rfl, rfl, rfl⟩

theorem RecordKept.pollFilled (s : State) : RecordKept s (pollFilled s) := RecordKept.pollGated s

/-- A frame that raises no pulse is CORRUPT or SIGLOSS, and neither writes the record (R152, R154). -/
theorem RecordKept.decodeBuffer {b : Memory} {s : State} (h : (decodeBuffer b s).reportDue = false) :
    RecordKept s (decodeBuffer b s) := by
  rcases decodeBuffer_cases b s with ⟨_, e⟩ | ⟨_, _, e⟩ | ⟨_, _, e⟩ <;> rw [e] at h ⊢
  case inl => exact ⟨rfl, rfl, rfl, rfl⟩
  case inr.inl => exact ⟨rfl, rfl, rfl, rfl⟩
  case inr.inr => cases h

/-- Of a POLL's exit paths only DISPATCH can write the record (R133, R135, R136). -/
theorem RecordKept.execPoll {s t : State} (h : execPoll s = .next t) (hlow : t.reportDue = false) : RecordKept s t := by
  rcases eq_of_execPoll h with ⟨_, rfl⟩ | ⟨_, _, rfl⟩ | ⟨_, _, rfl⟩
  · exact (RecordKept.pollGated s).updateLock
  · exact (RecordKept.pollFilled s).updateLock
  · rw [updateLock_reportDue, releaseBuffer_reportDue] at hlow
    exact ((RecordKept.decodeBuffer hlow).trans (.pollFilled s)).releaseBuffer.updateLock

/-- Of the commands other than REINIT only POLL can write the record (Table R82). -/
theorem RecordKept.exec_decodeCmd {s t : State} {w : CmdWord} (hw : w ≠ 0b10) (h : exec (decodeCmd w) s = .next t)
    (hlow : t.reportDue = false) : RecordKept s t := by
  rcases decodeCmd_cases w with ⟨_, e⟩ | ⟨_, e⟩ | ⟨hreinit, _⟩ | ⟨_, e⟩
  · rw [e, exec_nop] at h
    cases h
    exact ⟨rfl, rfl, rfl, rfl⟩
  · rw [e] at h
    exact .execPoll h hlow
  · exact absurd hreinit hw
  · rw [e, exec_rsvd] at h
    cases h
    exact ⟨rfl, rfl, rfl, rfl⟩

/-- Settles O42, by the five things a step can do (`step_cases`): the reset is excluded, an idle cycle and a pick word do
not write the record, and a command or the end of a frame only with a pulse. -/
theorem goodTimeValidBitChannelsFrameTsOnlyByValidFrame :
    Obligations.GoodTimeValidBitChannelsFrameTsOnlyByValidFrame := by
  unfold Obligations.GoodTimeValidBitChannelsFrameTsOnlyByValidFrame
  intro s t hstep hlow hrst hreinit
  rcases step_cases hstep with ⟨n, rest, hp, _⟩ | ⟨_, _, rfl⟩ | ⟨r, rest, hph, hp, hrun⟩ | ⟨_, rfl⟩ | ⟨e, _, _, _, rfl⟩
  · exact absurd ⟨n, rest, hp⟩ hrst
  · exact ⟨rfl, rfl, rfl, rfl⟩
  · have hw : r.cmd ≠ 0b10 := fun hw => hreinit ⟨hph, r, rest, hp, hw⟩
    exact RecordKept.exec_decodeCmd (s := accept r { lowerReport s with pending := rest }) hw hrun hlow
  · exact RecordKept.decodeBuffer (s := lowerReport s) hlow
  · exact ⟨rfl, rfl, rfl, rfl⟩

/-! ### Elapsed time (R138) -/

/-- Settles O46: both parts are the wrapping subtraction of `tsub_eq` on numbers. -/
theorem elapsedTimeIsWrapSafe : Obligations.ElapsedTimeIsWrapSafe := by
  unfold Obligations.ElapsedTimeIsWrapSafe
  constructor
  · intro a b hle hlt
    have ha : (BitVec.ofNat 64 a).toNat = a % 2 ^ 64 := BitVec.toNat_ofNat a 64
    have hb : (BitVec.ofNat 64 b).toNat = b % 2 ^ 64 := BitVec.toNat_ofNat b 64
    rw [tsub_eq]
    simp only [ha, hb]
    omega
  · intro a b hback hnear
    have hb := toNat_time_lt b
    rw [tsub_eq]
    omega

end Sys2Proof.Machine
end
